-- ==== Sys2Proof/Word.lean ====
section
/-! DEFINITION. The two word types of the core: every data value is 8 bits, every address 16 (00_scope.md R6, R8;
43_arithmetic.md R160). -/

namespace Sys2Proof

/-- A data byte (R8). -/
abbrev Byte := BitVec 8

/-- An address or 16-bit value (R8). -/
abbrev Word := BitVec 16

end Sys2Proof
end

