-- ==== Sys2Proof/Config.lean ====
section
/-! DEFINITION. The open parameters of the spec (00_scope.md R7): `Params`, which every operation that depends on one takes as an
argument, and the values the machine itself is built with. Those of the decimal functions are in Machine/Flags.lean, and
`Config.params`, which puts all of them together, is in Machine/Params.lean. -/

namespace Sys2Proof

/-- What an add or a subtract yields: the accumulator and the four flags it writes (43_arithmetic.md R161 to R164). -/
structure AluResult where
  value : Byte
  c : Bool
  z : Bool
  v : Bool
  n : Bool
  deriving DecidableEq, Repr

/-- The type of `DecimalAdc` and `DecimalSbc`: a total function of `A`, `M` and `C` (R7, 43_arithmetic.md R162, R163). -/
abbrev DecimalFunction := Byte → Byte → Bool → AluResult

/-- One registration of the device seam: an address range with a read and a write handler (20_memory.md R74). A handler sees
the memory and the address; a read handler returns a byte and nothing else, so a device whose reads have side effects cannot
be registered (93_implementation_defined.md U7). Safe: log 7. -/
structure DeviceEntry where
  first : Word
  last : Word
  read : List Host.Cell → Word → Byte
  write : List Host.Cell → Word → Byte → List Host.Cell

/-- The open parameters, one field for each row of R7. -/
structure Params where
  /-- `A_POWERON` -/
  aPowerOn : Byte
  /-- `X_POWERON` -/
  xPowerOn : Byte
  /-- `Y_POWERON` -/
  yPowerOn : Byte
  /-- `C_POWERON` -/
  cPowerOn : Bool
  /-- `Z_POWERON` -/
  zPowerOn : Bool
  /-- `V_POWERON` -/
  vPowerOn : Bool
  /-- `N_POWERON` -/
  nPowerOn : Bool
  /-- `MEM_POWERON`: what each byte of memory that nothing has written reads as (20_memory.md R95) -/
  memPowerOn : Word → Byte
  /-- `DeviceMap` (20_memory.md R74) -/
  deviceMap : List DeviceEntry
  /-- `DecimalAdc` (43_arithmetic.md R162) -/
  decimalAdc : DecimalFunction
  /-- `DecimalSbc` (43_arithmetic.md R163) -/
  decimalSbc : DecimalFunction

/-- `A_POWERON` of the machine (R7, 10_state.md R31). DESIGN CHOICE, unsafe: log 3. -/
def Config.aPowerOn : Byte := 0
/-- `X_POWERON` of the machine (R7, R32). DESIGN CHOICE, unsafe: log 3. -/
def Config.xPowerOn : Byte := 0
/-- `Y_POWERON` of the machine (R7, R33). DESIGN CHOICE, unsafe: log 3. -/
def Config.yPowerOn : Byte := 0
/-- `N_POWERON` of the machine (R7, R44). DESIGN CHOICE, unsafe: log 4. -/
def Config.nPowerOn : Bool := false
/-- `V_POWERON` of the machine (R7, R43). DESIGN CHOICE, unsafe: log 4. -/
def Config.vPowerOn : Bool := false
/-- `Z_POWERON` of the machine (R7, R40). DESIGN CHOICE, unsafe: log 4. -/
def Config.zPowerOn : Bool := false
/-- `C_POWERON` of the machine (R7, R39). DESIGN CHOICE, unsafe: log 4. -/
def Config.cPowerOn : Bool := false

/-- `MEM_POWERON` of the machine (R7, 20_memory.md R95): what a byte of memory that nothing has written reads as, by address.
DESIGN CHOICE, unsafe: log 2. -/
def Config.memPowerOn : Word → Byte := fun _ => 0

/-- `DeviceMap` of the machine (R7, R74): the default, and the only case the spec's rules are stated for, is the empty list
(92_eei_decisions.md D27). DESIGN CHOICE, unsafe: log 7. -/
def Config.deviceMap : List DeviceEntry := []

end Sys2Proof
end

