-- ==== Sys2Proof/Machine/State.lean ====
section
/-! DEFINITION. The state of the core (10_state.md R30 to R55), its memory, the output ports and the driver's pending calls,
as plain data; the reasons a step can stop; the state right after reset (R58). -/

namespace Sys2Proof.Machine

/-- The 65536 bytes of memory (20_memory.md R70) as (address, byte) pairs, addresses strictly rising, no entry equal to
`Config.memPowerOn` of its address, which an unlisted address reads as. -/
abbrev Memory := List Host.Cell

/-- The seven stored status flags (R37 to R44); the eighth bit, `U`, is the constant 1 and not storage. -/
structure Flags where
  n : Bool
  v : Bool
  b : Bool
  d : Bool
  i : Bool
  z : Bool
  c : Bool
  deriving DecidableEq, Repr

/-- The operation in flight, or the next one to start (R51). -/
inductive Op where
  | instr
  | irqSeq
  | nmiSeq
  | resetWait
  deriving DecidableEq, Repr

/-- The diagnostic value other than `None` (60_exceptions.md R271). -/
inductive Diag where
  | unknownOpcode (opc : Byte) (pc0 : Word)
  deriving DecidableEq, Repr

/-- A call of the driver (00_scope.md R19): one clock cycle `Tick(rst, irq, nmi)` (R241), one whole operation
`Step(irq, nmi)` (R247), or a memory write of the host between calls (20_memory.md R94). -/
inductive Call where
  | tick (rst irq nmi : Bool)
  | step (irq nmi : Bool)
  | write (a : Word) (v : Byte)
  deriving DecidableEq, Repr

/-- The whole machine state (R16, R30). `calls`, `diag` and `cyclesOut` are not state of the core: they are the driver's
pending calls, oldest first (DESIGN CHOICE, log 1), and the output ports of R56 as the last call left them (DESIGN CHOICE,
log 6). -/
structure State where
  /-- accumulator, R31 -/
  a : Byte
  /-- index register X, R32 -/
  x : Byte
  /-- index register Y, R33 -/
  y : Byte
  /-- stack pointer, offset into page 1, R34 -/
  sp : Byte
  /-- program counter, R35 -/
  pc : Word
  /-- status flags, R37 -/
  p : Flags
  /-- ticks the operation in flight still needs, R50 -/
  cyclesRemaining : Nat
  /-- R51 -/
  op : Op
  /-- level of the irq input at the last sample, R52 -/
  irqLatch : Bool
  /-- an NMI edge waits, R53 -/
  nmiPending : Bool
  /-- level of the nmi input at the last sample, R54 -/
  nmiPrev : Bool
  /-- R55 -/
  halted : Bool
  /-- R70 -/
  mem : Memory
  /-- pending driver calls, oldest first -/
  calls : List Call
  /-- output port, R56, R271 -/
  diag : Option Diag
  /-- output port of step mode, R56, R247 -/
  cyclesOut : Option Nat
  deriving DecidableEq, Repr

/-- The reasons the machine stops with a fault: there are none. "All operations are total over their documented domains"
(60_exceptions.md R250, 00_scope.md R17). No one raises one, which is neither safe nor unsafe: it is what the spec says. -/
inductive Fault
  deriving DecidableEq, Repr

/-- The reasons a step has no meaning. -/
inductive Refusal where
  /-- An instruction without a meaning yet. No arm of `exec` raises it. Safe. -/
  | notModelled (mnemonic : String)
  /-- The driver calls `Step` while an operation is under way; "outside the model" (60_exceptions.md R247,
  93_implementation_defined.md U12 `refuse`). Raised by `perform` for a queued call only. Safe. -/
  | stepMidOperation
  deriving DecidableEq, Repr

/-- The state right after the first reset operation (R58), reset memory empty, `nmi` deasserted on the reset tick. The values
the spec leaves open are those of Config (logs 2 to 5); both bytes of the reset vector read as unwritten memory does. -/
def State.reset : State where
  a := Config.aPowerOn
  x := Config.xPowerOn
  y := Config.yPowerOn
  sp := 0xFD
  pc := Config.memPowerOn 0xFFFD ++ Config.memPowerOn 0xFFFC
  p := { n := Config.nPowerOn, v := Config.vPowerOn, b := false, d := false, i := true,
         z := Config.zPowerOn, c := Config.cPowerOn }
  cyclesRemaining := 7
  op := .resetWait
  irqLatch := false
  nmiPending := false
  nmiPrev := false
  halted := false
  mem := []
  calls := []
  diag := none
  cyclesOut := none

end Sys2Proof.Machine
end

