-- ==== Sys2Proof/Syntax.lean ====
section
/-! DEFINITION. The instruction set as syntax: the addressing modes (30_encoding.md R103), the mnemonics (R118, R119), the
operand of an instruction in each mode, and `Instr`, one constructor per documented opcode byte of spec/opcode_table.json
and one for the sentinel descriptor that its other 105 rows share (R119). Register numbers do not occur: registers are
implied by the mnemonic (R100). -/

namespace Sys2Proof

/-- The twelve addressing modes, R103. The accumulator forms of the shifts are `implied` (92_eei_decisions.md D18). -/
inductive Mode where
  | implied | immediate | zeroPage | zeroPageX | zeroPageY | absolute | absoluteX | absoluteY
  | indirect | indirectX | indirectY | relative
  deriving DecidableEq, Repr

/-- The 56 documented mnemonics (R118), and `UNDOC` for the sentinel's `???` (R119). -/
inductive Mnemonic where
  | LDA | LDX | LDY | STA | STX | STY
  | TAX | TAY | TXA | TYA
  | INC | DEC | INX | INY | DEX | DEY
  | ADC | SBC
  | AND | ORA | EOR | BIT | ASL | LSR | ROL | ROR
  | CMP | CPX | CPY
  | BCC | BCS | BEQ | BNE | BMI | BPL | BVC | BVS
  | JMP | JSR | RTS | RTI
  | PHA | PHP | PLA | PLP | TXS | TSX
  | CLC | SEC | CLI | SEI | CLD | SED | CLV | NOP | BRK
  | UNDOC
  deriving DecidableEq, Repr

/-- The operand of an instruction, one case per addressing mode, holding the trailing bytes: a byte for the two-byte
formats, the little-endian word `{b2, b1}` for the three-byte ones (R100, R103). -/
inductive Operand where
  | implied
  | imm (v : Byte)
  | zp (z : Byte)
  | zpx (z : Byte)
  | zpy (z : Byte)
  | abs (w : Word)
  | abx (w : Word)
  | aby (w : Word)
  | ind (w : Word)
  | izx (z : Byte)
  | izy (z : Byte)
  | rel (d : Byte)
  deriving DecidableEq, Repr

/-- The instructions. A constructor is named by its mnemonic and, where the mnemonic has several rows, its mode: `Acc`
accumulator (Implied), `Imm`, `Zp`, `Zpx`, `Zpy`, `Abs`, `Abx`, `Aby`, `Ind`, `Izx`, `Izy`. Its argument is the operand
byte or word. -/
inductive Instr where
  -- load and store (R130 to R136)
  | ldaImm (v : Byte) | ldaZp (z : Byte) | ldaZpx (z : Byte) | ldaAbs (w : Word) | ldaAbx (w : Word) | ldaAby (w : Word) | ldaIzx (z : Byte) | ldaIzy (z : Byte)
  | ldxImm (v : Byte) | ldxZp (z : Byte) | ldxZpy (z : Byte) | ldxAbs (w : Word) | ldxAby (w : Word)
  | ldyImm (v : Byte) | ldyZp (z : Byte) | ldyZpx (z : Byte) | ldyAbs (w : Word) | ldyAbx (w : Word)
  | staZp (z : Byte) | staZpx (z : Byte) | staAbs (w : Word) | staAbx (w : Word) | staAby (w : Word) | staIzx (z : Byte) | staIzy (z : Byte)
  | stxZp (z : Byte) | stxZpy (z : Byte) | stxAbs (w : Word)
  | styZp (z : Byte) | styZpx (z : Byte) | styAbs (w : Word)
  -- register transfers (R140 to R144)
  | tax
  | tay
  | txa
  | tya
  -- increment and decrement (R150 to R156)
  | incZp (z : Byte) | incZpx (z : Byte) | incAbs (w : Word) | incAbx (w : Word)
  | decZp (z : Byte) | decZpx (z : Byte) | decAbs (w : Word) | decAbx (w : Word)
  | inx
  | iny
  | dex
  | dey
  -- add and subtract with carry (R160 to R165)
  | adcImm (v : Byte) | adcZp (z : Byte) | adcZpx (z : Byte) | adcAbs (w : Word) | adcAbx (w : Word) | adcAby (w : Word) | adcIzx (z : Byte) | adcIzy (z : Byte)
  | sbcImm (v : Byte) | sbcZp (z : Byte) | sbcZpx (z : Byte) | sbcAbs (w : Word) | sbcAbx (w : Word) | sbcAby (w : Word) | sbcIzx (z : Byte) | sbcIzy (z : Byte)
  -- logic, bit test, shifts and rotates (R170 to R179)
  | andImm (v : Byte) | andZp (z : Byte) | andZpx (z : Byte) | andAbs (w : Word) | andAbx (w : Word) | andAby (w : Word) | andIzx (z : Byte) | andIzy (z : Byte)
  | oraImm (v : Byte) | oraZp (z : Byte) | oraZpx (z : Byte) | oraAbs (w : Word) | oraAbx (w : Word) | oraAby (w : Word) | oraIzx (z : Byte) | oraIzy (z : Byte)
  | eorImm (v : Byte) | eorZp (z : Byte) | eorZpx (z : Byte) | eorAbs (w : Word) | eorAbx (w : Word) | eorAby (w : Word) | eorIzx (z : Byte) | eorIzy (z : Byte)
  | bitZp (z : Byte) | bitAbs (w : Word)
  | aslAcc | aslZp (z : Byte) | aslZpx (z : Byte) | aslAbs (w : Word) | aslAbx (w : Word)
  | lsrAcc | lsrZp (z : Byte) | lsrZpx (z : Byte) | lsrAbs (w : Word) | lsrAbx (w : Word)
  | rolAcc | rolZp (z : Byte) | rolZpx (z : Byte) | rolAbs (w : Word) | rolAbx (w : Word)
  | rorAcc | rorZp (z : Byte) | rorZpx (z : Byte) | rorAbs (w : Word) | rorAbx (w : Word)
  -- compares (R185 to R188)
  | cmpImm (v : Byte) | cmpZp (z : Byte) | cmpZpx (z : Byte) | cmpAbs (w : Word) | cmpAbx (w : Word) | cmpAby (w : Word) | cmpIzx (z : Byte) | cmpIzy (z : Byte)
  | cpxImm (v : Byte) | cpxZp (z : Byte) | cpxAbs (w : Word)
  | cpyImm (v : Byte) | cpyZp (z : Byte) | cpyAbs (w : Word)
  -- branches (R190 to R198)
  | bcc (d : Byte)
  | bcs (d : Byte)
  | beq (d : Byte)
  | bne (d : Byte)
  | bmi (d : Byte)
  | bpl (d : Byte)
  | bvc (d : Byte)
  | bvs (d : Byte)
  -- jumps, subroutine, returns (R200 to R204)
  | jmpAbs (w : Word) | jmpInd (w : Word)
  | jsr (w : Word)
  | rts
  | rti
  -- stack (R210 to R216)
  | pha
  | php
  | pla
  | plp
  | txs
  | tsx
  -- flags, NOP, BRK (R220 to R230)
  | clc
  | sec
  | cli
  | sei
  | cld
  | sed
  | clv
  | nop
  | brk
  -- the sentinel (R119, R231): any of the 105 undocumented opcode bytes, which it carries
  | undoc (opc : Byte)
  deriving DecidableEq, Repr

end Sys2Proof
end

