-- ==== Sys2Proof/Machine/Flags.lean ====
section
/-! DEFINITION. Every flag computation of the spec: SetZN, StatusByte, LoadStatus (10_state.md R45 to R47), add and subtract in
binary and decimal (43_arithmetic.md R161 to R164), compare (45_compare.md R185), shifts and rotates (44_logic_shift.md R175
to R179), and the branch conditions (46_branch.md R190). Sums are formed in the integers and narrowed at the end (R9). -/

namespace Sys2Proof.Machine

/-- `SetZN(v)` (R45). -/
def Flags.setZN (p : Flags) (v : Byte) : Flags := { p with z := v == 0, n := v.getLsbD 7 }

/-- `StatusByte(b)` (R46): `{N, V, 1, b, D, I, Z, C}`. -/
def statusByte (b : Bool) (p : Flags) : Byte :=
  BitVec.ofNat 8 (p.n.toNat * 128 + p.v.toNat * 64 + 32 + b.toNat * 16 + p.d.toNat * 8 + p.i.toNat * 4 + p.z.toNat * 2
    + p.c.toNat)

/-- `LoadStatus(v)` (R47): bits 5 and 4 of the byte are ignored, `B` is cleared. -/
def loadStatus (v : Byte) : Flags :=
  { n := v.getLsbD 7, v := v.getLsbD 6, b := false, d := v.getLsbD 3, i := v.getLsbD 2, z := v.getLsbD 1,
    c := v.getLsbD 0 }

/-- The four arithmetic flags taken from a result; `B`, `D`, `I` are kept (R48). -/
def Flags.ofAlu (p : Flags) (r : AluResult) : Flags := { p with n := r.n, v := r.v, z := r.z, c := r.c }

/-- Binary add with carry-in (R161). -/
def binaryAdc (a m : Byte) (c : Bool) : AluResult :=
  let s := a.toNat + m.toNat + c.toNat
  let r := BitVec.ofNat 8 s
  { value := r, c := s > 255, z := r == 0, v := ((a ^^^ r) &&& (m ^^^ r) &&& 0x80) != 0, n := r.getLsbD 7 }

/-- Binary subtract with borrow-in: the sum `A + (M ^ 0xFF) + C` (R164). -/
def binarySbc (a m : Byte) (c : Bool) : AluResult :=
  let m' := m ^^^ 0xFF
  let s := a.toNat + m'.toNat + c.toNat
  let r := BitVec.ofNat 8 s
  { value := r, c := s > 255, z := r == 0, v := ((a ^^^ r) &&& (m' ^^^ r) &&& 0x80) != 0, n := r.getLsbD 7 }

/-- The spec's default for `DecimalAdc(A, M, C)` (R162, 92_eei_decisions.md D16), the machine's own: log 8. -/
def decimalAdc (a m : Byte) (c : Bool) : AluResult :=
  let bs := a.toNat + m.toNat + c.toNat
  let al := (a &&& 0x0F).toNat + (m &&& 0x0F).toNat + c.toNat
  let al := if al ≥ 0x0A then ((al + 0x06) % 16) + 0x10 else al
  let t := (a &&& 0xF0).toNat + (m &&& 0xF0).toNat + al
  let n := t.testBit 7
  let v := ((a.toNat ^^^ t) &&& (m.toNat ^^^ t) &&& 0x80) != 0
  let t := if t ≥ 0xA0 then t + 0x60 else t
  { value := BitVec.ofNat 8 t, c := t ≥ 0x100, z := bs % 256 == 0, v := v, n := n }

/-- The spec's default for `DecimalSbc(A, M, C)` (R163, D16): the flags of the binary subtract, the result adjusted. Log 8. -/
def decimalSbc (a m : Byte) (c : Bool) : AluResult :=
  let al : Int := (a &&& 0x0F).toNat - (m &&& 0x0F).toNat + c.toNat - 1
  let al := if al < 0 then (al - 0x06) % 16 - 0x10 else al
  let t : Int := (a &&& 0xF0).toNat - (m &&& 0xF0).toNat + al
  let t := if t < 0 then t - 0x60 else t
  { binarySbc a m c with value := BitVec.ofInt 8 t }

/-- The add of `ADC`: binary or decimal by `D` (R161); `DecimalAdc` is the argument. -/
def adcResult (decimal : DecimalFunction) (d : Bool) (a m : Byte) (c : Bool) : AluResult :=
  if d then decimal a m c else binaryAdc a m c

/-- The subtract of `SBC`: binary or decimal by `D` (R164); `DecimalSbc` is the argument. -/
def sbcResult (decimal : DecimalFunction) (d : Bool) (a m : Byte) (c : Bool) : AluResult :=
  if d then decimal a m c else binarySbc a m c

/-- The flags of a compare (R185): `C` when the register is at least the operand, `Z` and `N` from the 8-bit difference; `V`
is kept, `C` and `D` are not read. -/
def Flags.compare (p : Flags) (r m : Byte) : Flags := { p with c := m.toNat ≤ r.toNat }.setZN (r - m)

/-- The flags of `BIT` (R174): `Z` from the and, `N` and `V` copies of the operand's bits 7 and 6. -/
def Flags.bitTest (p : Flags) (a m : Byte) : Flags :=
  { p with z := a &&& m == 0, n := m.getLsbD 7, v := m.getLsbD 6 }

/-- `ASL` of a byte (R176): the result and the bit shifted out. The carry-in is not used. -/
def aslByte (_c : Bool) (v : Byte) : Byte × Bool := (v <<< 1, v.getLsbD 7)

/-- `LSR` of a byte (R177): the result and the bit shifted out. The carry-in is not used. -/
def lsrByte (_c : Bool) (v : Byte) : Byte × Bool := (v >>> 1, v.getLsbD 0)

/-- `ROL` of a byte (R178): the old carry enters at bit 0. -/
def rolByte (c : Bool) (v : Byte) : Byte × Bool := (v <<< 1 ||| (if c then 0x01 else 0x00), v.getLsbD 7)

/-- `ROR` of a byte (R179): the old carry enters at bit 7. -/
def rorByte (c : Bool) (v : Byte) : Byte × Bool := (v >>> 1 ||| (if c then 0x80 else 0x00), v.getLsbD 0)

/-- Whether an instruction is a branch whose condition holds on the flags (R190). -/
def branchTaken (m : Mnemonic) (p : Flags) : Bool :=
  match m with
  | .BPL => !p.n
  | .BMI => p.n
  | .BVC => !p.v
  | .BVS => p.v
  | .BCC => !p.c
  | .BCS => p.c
  | .BNE => !p.z
  | .BEQ => p.z
  | _ => false

end Sys2Proof.Machine
end

