-- ==== Sys2Proof/WellFormed.lean ====
section
/-! DEFINITION. Which terms of `Instr` are instructions. The operand types admit exactly the bytes of each encoding, so the
one thing left to check is that the sentinel carries one of the 105 undocumented bytes (30_encoding.md R119, R123). -/

namespace Sys2Proof

/-- The 105 sentinel bytes, one line per high nibble as R123's list runs. -/
def undocumentedBytes : List Byte :=
  [0x02, 0x03, 0x04, 0x07, 0x0B, 0x0C, 0x0F] ++
  [0x12, 0x13, 0x14, 0x17, 0x1A, 0x1B, 0x1C, 0x1F] ++
  [0x22, 0x23, 0x27, 0x2B, 0x2F] ++
  [0x32, 0x33, 0x34, 0x37, 0x3A, 0x3B, 0x3C, 0x3F] ++
  [0x42, 0x43, 0x44, 0x47, 0x4B, 0x4F] ++
  [0x52, 0x53, 0x54, 0x57, 0x5A, 0x5B, 0x5C, 0x5F] ++
  [0x62, 0x63, 0x64, 0x67, 0x6B, 0x6F] ++
  [0x72, 0x73, 0x74, 0x77, 0x7A, 0x7B, 0x7C, 0x7F] ++
  [0x80, 0x82, 0x83, 0x87, 0x89, 0x8B, 0x8F] ++
  [0x92, 0x93, 0x97, 0x9B, 0x9C, 0x9E, 0x9F] ++
  [0xA3, 0xA7, 0xAB, 0xAF] ++
  [0xB2, 0xB3, 0xB7, 0xBB, 0xBF] ++
  [0xC2, 0xC3, 0xC7, 0xCB, 0xCF] ++
  [0xD2, 0xD3, 0xD4, 0xD7, 0xDA, 0xDB, 0xDC, 0xDF] ++
  [0xE2, 0xE3, 0xE7, 0xEB, 0xEF] ++
  [0xF2, 0xF3, 0xF4, 0xF7, 0xFA, 0xFB, 0xFC, 0xFF]

/-- Well-formedness of an instruction: a documented one always is, a sentinel when its byte is undocumented (R119). -/
def Instr.wf : Instr → Bool
  | .undoc opc => undocumentedBytes.contains opc
  | .ldaImm _ | .ldaZp _ | .ldaZpx _ | .ldaAbs _ | .ldaAbx _ | .ldaAby _ | .ldaIzx _ | .ldaIzy _ | .ldxImm _ | .ldxZp _ | .ldxZpy _ | .ldxAbs _
  | .ldxAby _ | .ldyImm _ | .ldyZp _ | .ldyZpx _ | .ldyAbs _ | .ldyAbx _ | .staZp _ | .staZpx _ | .staAbs _ | .staAbx _ | .staAby _ | .staIzx _
  | .staIzy _ | .stxZp _ | .stxZpy _ | .stxAbs _ | .styZp _ | .styZpx _ | .styAbs _ | .tax | .tay | .txa | .tya | .incZp _
  | .incZpx _ | .incAbs _ | .incAbx _ | .decZp _ | .decZpx _ | .decAbs _ | .decAbx _ | .inx | .iny | .dex | .dey | .adcImm _
  | .adcZp _ | .adcZpx _ | .adcAbs _ | .adcAbx _ | .adcAby _ | .adcIzx _ | .adcIzy _ | .sbcImm _ | .sbcZp _ | .sbcZpx _ | .sbcAbs _ | .sbcAbx _
  | .sbcAby _ | .sbcIzx _ | .sbcIzy _ | .andImm _ | .andZp _ | .andZpx _ | .andAbs _ | .andAbx _ | .andAby _ | .andIzx _ | .andIzy _ | .oraImm _
  | .oraZp _ | .oraZpx _ | .oraAbs _ | .oraAbx _ | .oraAby _ | .oraIzx _ | .oraIzy _ | .eorImm _ | .eorZp _ | .eorZpx _ | .eorAbs _ | .eorAbx _
  | .eorAby _ | .eorIzx _ | .eorIzy _ | .bitZp _ | .bitAbs _ | .aslAcc | .aslZp _ | .aslZpx _ | .aslAbs _ | .aslAbx _ | .lsrAcc | .lsrZp _
  | .lsrZpx _ | .lsrAbs _ | .lsrAbx _ | .rolAcc | .rolZp _ | .rolZpx _ | .rolAbs _ | .rolAbx _ | .rorAcc | .rorZp _ | .rorZpx _ | .rorAbs _
  | .rorAbx _ | .cmpImm _ | .cmpZp _ | .cmpZpx _ | .cmpAbs _ | .cmpAbx _ | .cmpAby _ | .cmpIzx _ | .cmpIzy _ | .cpxImm _ | .cpxZp _ | .cpxAbs _
  | .cpyImm _ | .cpyZp _ | .cpyAbs _ | .bcc _ | .bcs _ | .beq _ | .bne _ | .bmi _ | .bpl _ | .bvc _ | .bvs _ | .jmpAbs _
  | .jmpInd _ | .jsr _ | .rts | .rti | .pha | .php | .pla | .plp | .txs | .tsx | .clc | .sec
  | .cli | .sei | .cld | .sed | .clv | .nop | .brk => true

end Sys2Proof
end

