-- ==== Sys2Proof/Decode.lean ====
section
/-! DEFINITION. The decoder and the encoder (30_encoding.md R100 to R103, R118 to R123): the descriptor table, the
instruction a byte sequence decodes to (total, rejecting by name), the words of an instruction, and the two views of an
instruction that the engine uses, its mnemonic and its operand. The byte-order and sign-extension helpers of R8 and R9 stand
here too. -/

namespace Sys2Proof

/-- `{h, l}`: the word with high byte `h` and low byte `l` (00_scope.md R8). -/
def wordOf (h l : Byte) : Word := h ++ l

/-- `lo(w) = w[7:0]` (R8). -/
def lo (w : Word) : Byte := w.setWidth 8

/-- `hi(w) = w[15:8]` (R8). -/
def hi (w : Word) : Byte := w.extractLsb' 8 8

/-- `zext_16(b)`: the byte as a word with high byte 0 (R9). -/
def zext16 (b : Byte) : Word := b.setWidth 16

/-- `sext_16(b)`: the byte read as two's complement, modulo 65536 (R9). -/
def sext16 (b : Byte) : Word := b.signExtend 16

/-- Instruction length by mode (R103). -/
def Mode.length : Mode → Nat
  | .implied => 1
  | .immediate | .zeroPage | .zeroPageX | .zeroPageY | .indirectX | .indirectY | .relative => 2
  | .absolute | .absoluteX | .absoluteY | .indirect => 3

/-- The mode of an operand (R103). -/
def Operand.mode : Operand → Mode
  | .implied => .implied
  | .imm _ => .immediate
  | .zp _ => .zeroPage
  | .zpx _ => .zeroPageX
  | .zpy _ => .zeroPageY
  | .abs _ => .absolute
  | .abx _ => .absoluteX
  | .aby _ => .absoluteY
  | .ind _ => .indirect
  | .izx _ => .indirectX
  | .izy _ => .indirectY
  | .rel _ => .relative

/-- A descriptor: the six fields of R102. -/
structure Descriptor where
  opcode : Byte
  mnemonic : Mnemonic
  mode : Mode
  length : Nat
  cycles : Nat
  pen : Bool
  deriving DecidableEq, Repr

/-- A row of the opcode map; the length follows from the mode (R102, R103). -/
def descriptorRow (opc : Byte) (m : Mnemonic) (mode : Mode) (cycles : Nat) (pen : Bool) : Descriptor :=
  { opcode := opc, mnemonic := m, mode := mode, length := mode.length, cycles := cycles, pen := pen }

/-- `Decode(opc)` (R101): the row of R118, in R118's order, or the sentinel of R119. Columns: mnemonic, mode, base cycles,
page-cross penalty. -/
def descriptor (opc : Byte) : Descriptor :=
  match opc.toNat with
  | 0xA9 => descriptorRow opc .LDA .immediate 2 false
  | 0xA5 => descriptorRow opc .LDA .zeroPage 3 false
  | 0xB5 => descriptorRow opc .LDA .zeroPageX 4 false
  | 0xAD => descriptorRow opc .LDA .absolute 4 false
  | 0xBD => descriptorRow opc .LDA .absoluteX 4 true
  | 0xB9 => descriptorRow opc .LDA .absoluteY 4 true
  | 0xA1 => descriptorRow opc .LDA .indirectX 6 false
  | 0xB1 => descriptorRow opc .LDA .indirectY 5 true
  | 0xA2 => descriptorRow opc .LDX .immediate 2 false
  | 0xA6 => descriptorRow opc .LDX .zeroPage 3 false
  | 0xB6 => descriptorRow opc .LDX .zeroPageY 4 false
  | 0xAE => descriptorRow opc .LDX .absolute 4 false
  | 0xBE => descriptorRow opc .LDX .absoluteY 4 true
  | 0xA0 => descriptorRow opc .LDY .immediate 2 false
  | 0xA4 => descriptorRow opc .LDY .zeroPage 3 false
  | 0xB4 => descriptorRow opc .LDY .zeroPageX 4 false
  | 0xAC => descriptorRow opc .LDY .absolute 4 false
  | 0xBC => descriptorRow opc .LDY .absoluteX 4 true
  | 0x85 => descriptorRow opc .STA .zeroPage 3 false
  | 0x95 => descriptorRow opc .STA .zeroPageX 4 false
  | 0x8D => descriptorRow opc .STA .absolute 4 false
  | 0x9D => descriptorRow opc .STA .absoluteX 5 false
  | 0x99 => descriptorRow opc .STA .absoluteY 5 false
  | 0x81 => descriptorRow opc .STA .indirectX 6 false
  | 0x91 => descriptorRow opc .STA .indirectY 6 false
  | 0x86 => descriptorRow opc .STX .zeroPage 3 false
  | 0x96 => descriptorRow opc .STX .zeroPageY 4 false
  | 0x8E => descriptorRow opc .STX .absolute 4 false
  | 0x84 => descriptorRow opc .STY .zeroPage 3 false
  | 0x94 => descriptorRow opc .STY .zeroPageX 4 false
  | 0x8C => descriptorRow opc .STY .absolute 4 false
  | 0xAA => descriptorRow opc .TAX .implied 2 false
  | 0xA8 => descriptorRow opc .TAY .implied 2 false
  | 0x8A => descriptorRow opc .TXA .implied 2 false
  | 0x98 => descriptorRow opc .TYA .implied 2 false
  | 0xE6 => descriptorRow opc .INC .zeroPage 5 false
  | 0xF6 => descriptorRow opc .INC .zeroPageX 6 false
  | 0xEE => descriptorRow opc .INC .absolute 6 false
  | 0xFE => descriptorRow opc .INC .absoluteX 7 false
  | 0xC6 => descriptorRow opc .DEC .zeroPage 5 false
  | 0xD6 => descriptorRow opc .DEC .zeroPageX 6 false
  | 0xCE => descriptorRow opc .DEC .absolute 6 false
  | 0xDE => descriptorRow opc .DEC .absoluteX 7 false
  | 0xE8 => descriptorRow opc .INX .implied 2 false
  | 0xC8 => descriptorRow opc .INY .implied 2 false
  | 0xCA => descriptorRow opc .DEX .implied 2 false
  | 0x88 => descriptorRow opc .DEY .implied 2 false
  | 0x69 => descriptorRow opc .ADC .immediate 2 false
  | 0x65 => descriptorRow opc .ADC .zeroPage 3 false
  | 0x75 => descriptorRow opc .ADC .zeroPageX 4 false
  | 0x6D => descriptorRow opc .ADC .absolute 4 false
  | 0x7D => descriptorRow opc .ADC .absoluteX 4 true
  | 0x79 => descriptorRow opc .ADC .absoluteY 4 true
  | 0x61 => descriptorRow opc .ADC .indirectX 6 false
  | 0x71 => descriptorRow opc .ADC .indirectY 5 true
  | 0xE9 => descriptorRow opc .SBC .immediate 2 false
  | 0xE5 => descriptorRow opc .SBC .zeroPage 3 false
  | 0xF5 => descriptorRow opc .SBC .zeroPageX 4 false
  | 0xED => descriptorRow opc .SBC .absolute 4 false
  | 0xFD => descriptorRow opc .SBC .absoluteX 4 true
  | 0xF9 => descriptorRow opc .SBC .absoluteY 4 true
  | 0xE1 => descriptorRow opc .SBC .indirectX 6 false
  | 0xF1 => descriptorRow opc .SBC .indirectY 5 true
  | 0x29 => descriptorRow opc .AND .immediate 2 false
  | 0x25 => descriptorRow opc .AND .zeroPage 3 false
  | 0x35 => descriptorRow opc .AND .zeroPageX 4 false
  | 0x2D => descriptorRow opc .AND .absolute 4 false
  | 0x3D => descriptorRow opc .AND .absoluteX 4 true
  | 0x39 => descriptorRow opc .AND .absoluteY 4 true
  | 0x21 => descriptorRow opc .AND .indirectX 6 false
  | 0x31 => descriptorRow opc .AND .indirectY 5 true
  | 0x09 => descriptorRow opc .ORA .immediate 2 false
  | 0x05 => descriptorRow opc .ORA .zeroPage 3 false
  | 0x15 => descriptorRow opc .ORA .zeroPageX 4 false
  | 0x0D => descriptorRow opc .ORA .absolute 4 false
  | 0x1D => descriptorRow opc .ORA .absoluteX 4 true
  | 0x19 => descriptorRow opc .ORA .absoluteY 4 true
  | 0x01 => descriptorRow opc .ORA .indirectX 6 false
  | 0x11 => descriptorRow opc .ORA .indirectY 5 true
  | 0x49 => descriptorRow opc .EOR .immediate 2 false
  | 0x45 => descriptorRow opc .EOR .zeroPage 3 false
  | 0x55 => descriptorRow opc .EOR .zeroPageX 4 false
  | 0x4D => descriptorRow opc .EOR .absolute 4 false
  | 0x5D => descriptorRow opc .EOR .absoluteX 4 true
  | 0x59 => descriptorRow opc .EOR .absoluteY 4 true
  | 0x41 => descriptorRow opc .EOR .indirectX 6 false
  | 0x51 => descriptorRow opc .EOR .indirectY 5 true
  | 0x24 => descriptorRow opc .BIT .zeroPage 3 false
  | 0x2C => descriptorRow opc .BIT .absolute 4 false
  | 0x0A => descriptorRow opc .ASL .implied 2 false
  | 0x06 => descriptorRow opc .ASL .zeroPage 5 false
  | 0x16 => descriptorRow opc .ASL .zeroPageX 6 false
  | 0x0E => descriptorRow opc .ASL .absolute 6 false
  | 0x1E => descriptorRow opc .ASL .absoluteX 7 false
  | 0x4A => descriptorRow opc .LSR .implied 2 false
  | 0x46 => descriptorRow opc .LSR .zeroPage 5 false
  | 0x56 => descriptorRow opc .LSR .zeroPageX 6 false
  | 0x4E => descriptorRow opc .LSR .absolute 6 false
  | 0x5E => descriptorRow opc .LSR .absoluteX 7 false
  | 0x2A => descriptorRow opc .ROL .implied 2 false
  | 0x26 => descriptorRow opc .ROL .zeroPage 5 false
  | 0x36 => descriptorRow opc .ROL .zeroPageX 6 false
  | 0x2E => descriptorRow opc .ROL .absolute 6 false
  | 0x3E => descriptorRow opc .ROL .absoluteX 7 false
  | 0x6A => descriptorRow opc .ROR .implied 2 false
  | 0x66 => descriptorRow opc .ROR .zeroPage 5 false
  | 0x76 => descriptorRow opc .ROR .zeroPageX 6 false
  | 0x6E => descriptorRow opc .ROR .absolute 6 false
  | 0x7E => descriptorRow opc .ROR .absoluteX 7 false
  | 0xC9 => descriptorRow opc .CMP .immediate 2 false
  | 0xC5 => descriptorRow opc .CMP .zeroPage 3 false
  | 0xD5 => descriptorRow opc .CMP .zeroPageX 4 false
  | 0xCD => descriptorRow opc .CMP .absolute 4 false
  | 0xDD => descriptorRow opc .CMP .absoluteX 4 true
  | 0xD9 => descriptorRow opc .CMP .absoluteY 4 true
  | 0xC1 => descriptorRow opc .CMP .indirectX 6 false
  | 0xD1 => descriptorRow opc .CMP .indirectY 5 true
  | 0xE0 => descriptorRow opc .CPX .immediate 2 false
  | 0xE4 => descriptorRow opc .CPX .zeroPage 3 false
  | 0xEC => descriptorRow opc .CPX .absolute 4 false
  | 0xC0 => descriptorRow opc .CPY .immediate 2 false
  | 0xC4 => descriptorRow opc .CPY .zeroPage 3 false
  | 0xCC => descriptorRow opc .CPY .absolute 4 false
  | 0x90 => descriptorRow opc .BCC .relative 2 true
  | 0xB0 => descriptorRow opc .BCS .relative 2 true
  | 0xF0 => descriptorRow opc .BEQ .relative 2 true
  | 0xD0 => descriptorRow opc .BNE .relative 2 true
  | 0x30 => descriptorRow opc .BMI .relative 2 true
  | 0x10 => descriptorRow opc .BPL .relative 2 true
  | 0x50 => descriptorRow opc .BVC .relative 2 true
  | 0x70 => descriptorRow opc .BVS .relative 2 true
  | 0x4C => descriptorRow opc .JMP .absolute 3 false
  | 0x6C => descriptorRow opc .JMP .indirect 5 false
  | 0x20 => descriptorRow opc .JSR .absolute 6 false
  | 0x60 => descriptorRow opc .RTS .implied 6 false
  | 0x40 => descriptorRow opc .RTI .implied 6 false
  | 0x48 => descriptorRow opc .PHA .implied 3 false
  | 0x08 => descriptorRow opc .PHP .implied 3 false
  | 0x68 => descriptorRow opc .PLA .implied 4 false
  | 0x28 => descriptorRow opc .PLP .implied 4 false
  | 0x9A => descriptorRow opc .TXS .implied 2 false
  | 0xBA => descriptorRow opc .TSX .implied 2 false
  | 0x18 => descriptorRow opc .CLC .implied 2 false
  | 0x38 => descriptorRow opc .SEC .implied 2 false
  | 0x58 => descriptorRow opc .CLI .implied 2 false
  | 0x78 => descriptorRow opc .SEI .implied 2 false
  | 0xD8 => descriptorRow opc .CLD .implied 2 false
  | 0xF8 => descriptorRow opc .SED .implied 2 false
  | 0xB8 => descriptorRow opc .CLV .implied 2 false
  | 0xEA => descriptorRow opc .NOP .implied 2 false
  | 0x00 => descriptorRow opc .BRK .implied 7 false
  | _ => descriptorRow opc .UNDOC .implied 0 false

/-- The instruction with opcode byte `opc` and operand bytes `b1`, `b2`, as far as its length reaches (R100, R118, R119). -/
def Instr.ofBytes (opc b1 b2 : Byte) : Instr :=
  match opc.toNat with
  | 0xA9 => .ldaImm b1
  | 0xA5 => .ldaZp b1
  | 0xB5 => .ldaZpx b1
  | 0xAD => .ldaAbs (wordOf b2 b1)
  | 0xBD => .ldaAbx (wordOf b2 b1)
  | 0xB9 => .ldaAby (wordOf b2 b1)
  | 0xA1 => .ldaIzx b1
  | 0xB1 => .ldaIzy b1
  | 0xA2 => .ldxImm b1
  | 0xA6 => .ldxZp b1
  | 0xB6 => .ldxZpy b1
  | 0xAE => .ldxAbs (wordOf b2 b1)
  | 0xBE => .ldxAby (wordOf b2 b1)
  | 0xA0 => .ldyImm b1
  | 0xA4 => .ldyZp b1
  | 0xB4 => .ldyZpx b1
  | 0xAC => .ldyAbs (wordOf b2 b1)
  | 0xBC => .ldyAbx (wordOf b2 b1)
  | 0x85 => .staZp b1
  | 0x95 => .staZpx b1
  | 0x8D => .staAbs (wordOf b2 b1)
  | 0x9D => .staAbx (wordOf b2 b1)
  | 0x99 => .staAby (wordOf b2 b1)
  | 0x81 => .staIzx b1
  | 0x91 => .staIzy b1
  | 0x86 => .stxZp b1
  | 0x96 => .stxZpy b1
  | 0x8E => .stxAbs (wordOf b2 b1)
  | 0x84 => .styZp b1
  | 0x94 => .styZpx b1
  | 0x8C => .styAbs (wordOf b2 b1)
  | 0xAA => .tax
  | 0xA8 => .tay
  | 0x8A => .txa
  | 0x98 => .tya
  | 0xE6 => .incZp b1
  | 0xF6 => .incZpx b1
  | 0xEE => .incAbs (wordOf b2 b1)
  | 0xFE => .incAbx (wordOf b2 b1)
  | 0xC6 => .decZp b1
  | 0xD6 => .decZpx b1
  | 0xCE => .decAbs (wordOf b2 b1)
  | 0xDE => .decAbx (wordOf b2 b1)
  | 0xE8 => .inx
  | 0xC8 => .iny
  | 0xCA => .dex
  | 0x88 => .dey
  | 0x69 => .adcImm b1
  | 0x65 => .adcZp b1
  | 0x75 => .adcZpx b1
  | 0x6D => .adcAbs (wordOf b2 b1)
  | 0x7D => .adcAbx (wordOf b2 b1)
  | 0x79 => .adcAby (wordOf b2 b1)
  | 0x61 => .adcIzx b1
  | 0x71 => .adcIzy b1
  | 0xE9 => .sbcImm b1
  | 0xE5 => .sbcZp b1
  | 0xF5 => .sbcZpx b1
  | 0xED => .sbcAbs (wordOf b2 b1)
  | 0xFD => .sbcAbx (wordOf b2 b1)
  | 0xF9 => .sbcAby (wordOf b2 b1)
  | 0xE1 => .sbcIzx b1
  | 0xF1 => .sbcIzy b1
  | 0x29 => .andImm b1
  | 0x25 => .andZp b1
  | 0x35 => .andZpx b1
  | 0x2D => .andAbs (wordOf b2 b1)
  | 0x3D => .andAbx (wordOf b2 b1)
  | 0x39 => .andAby (wordOf b2 b1)
  | 0x21 => .andIzx b1
  | 0x31 => .andIzy b1
  | 0x09 => .oraImm b1
  | 0x05 => .oraZp b1
  | 0x15 => .oraZpx b1
  | 0x0D => .oraAbs (wordOf b2 b1)
  | 0x1D => .oraAbx (wordOf b2 b1)
  | 0x19 => .oraAby (wordOf b2 b1)
  | 0x01 => .oraIzx b1
  | 0x11 => .oraIzy b1
  | 0x49 => .eorImm b1
  | 0x45 => .eorZp b1
  | 0x55 => .eorZpx b1
  | 0x4D => .eorAbs (wordOf b2 b1)
  | 0x5D => .eorAbx (wordOf b2 b1)
  | 0x59 => .eorAby (wordOf b2 b1)
  | 0x41 => .eorIzx b1
  | 0x51 => .eorIzy b1
  | 0x24 => .bitZp b1
  | 0x2C => .bitAbs (wordOf b2 b1)
  | 0x0A => .aslAcc
  | 0x06 => .aslZp b1
  | 0x16 => .aslZpx b1
  | 0x0E => .aslAbs (wordOf b2 b1)
  | 0x1E => .aslAbx (wordOf b2 b1)
  | 0x4A => .lsrAcc
  | 0x46 => .lsrZp b1
  | 0x56 => .lsrZpx b1
  | 0x4E => .lsrAbs (wordOf b2 b1)
  | 0x5E => .lsrAbx (wordOf b2 b1)
  | 0x2A => .rolAcc
  | 0x26 => .rolZp b1
  | 0x36 => .rolZpx b1
  | 0x2E => .rolAbs (wordOf b2 b1)
  | 0x3E => .rolAbx (wordOf b2 b1)
  | 0x6A => .rorAcc
  | 0x66 => .rorZp b1
  | 0x76 => .rorZpx b1
  | 0x6E => .rorAbs (wordOf b2 b1)
  | 0x7E => .rorAbx (wordOf b2 b1)
  | 0xC9 => .cmpImm b1
  | 0xC5 => .cmpZp b1
  | 0xD5 => .cmpZpx b1
  | 0xCD => .cmpAbs (wordOf b2 b1)
  | 0xDD => .cmpAbx (wordOf b2 b1)
  | 0xD9 => .cmpAby (wordOf b2 b1)
  | 0xC1 => .cmpIzx b1
  | 0xD1 => .cmpIzy b1
  | 0xE0 => .cpxImm b1
  | 0xE4 => .cpxZp b1
  | 0xEC => .cpxAbs (wordOf b2 b1)
  | 0xC0 => .cpyImm b1
  | 0xC4 => .cpyZp b1
  | 0xCC => .cpyAbs (wordOf b2 b1)
  | 0x90 => .bcc b1
  | 0xB0 => .bcs b1
  | 0xF0 => .beq b1
  | 0xD0 => .bne b1
  | 0x30 => .bmi b1
  | 0x10 => .bpl b1
  | 0x50 => .bvc b1
  | 0x70 => .bvs b1
  | 0x4C => .jmpAbs (wordOf b2 b1)
  | 0x6C => .jmpInd (wordOf b2 b1)
  | 0x20 => .jsr (wordOf b2 b1)
  | 0x60 => .rts
  | 0x40 => .rti
  | 0x48 => .pha
  | 0x08 => .php
  | 0x68 => .pla
  | 0x28 => .plp
  | 0x9A => .txs
  | 0xBA => .tsx
  | 0x18 => .clc
  | 0x38 => .sec
  | 0x58 => .cli
  | 0x78 => .sei
  | 0xD8 => .cld
  | 0xF8 => .sed
  | 0xB8 => .clv
  | 0xEA => .nop
  | 0x00 => .brk
  | _ => .undoc opc

/-- Why a byte sequence holds no whole instruction. No opcode byte is rejected: all 256 have a descriptor (R101). -/
inductive DecodeError where
  /-- there is no byte at all -/
  | noOpcode
  /-- the sequence ends before the instruction's length (R121) -/
  | truncated (opc : Byte)
  deriving DecidableEq, Repr

/-- Decoding a byte sequence: the first instruction and the bytes after it (R100, R121). -/
def decode : List Byte → Except DecodeError (Instr × List Byte)
  | [] => .error .noOpcode
  | opc :: rest =>
    match (descriptor opc).length, rest with
    | 1, rest => .ok (Instr.ofBytes opc 0 0, rest)
    | 2, b1 :: rest => .ok (Instr.ofBytes opc b1 0, rest)
    | 3, b1 :: b2 :: rest => .ok (Instr.ofBytes opc b1 b2, rest)
    | _, _ => .error (.truncated opc)

/-- The bytes of an instruction, the first at the lowest address (R100, R118). -/
def encode : Instr → List Byte
  | .ldaImm v => [0xA9, v]
  | .ldaZp z => [0xA5, z]
  | .ldaZpx z => [0xB5, z]
  | .ldaAbs w => [0xAD, lo w, hi w]
  | .ldaAbx w => [0xBD, lo w, hi w]
  | .ldaAby w => [0xB9, lo w, hi w]
  | .ldaIzx z => [0xA1, z]
  | .ldaIzy z => [0xB1, z]
  | .ldxImm v => [0xA2, v]
  | .ldxZp z => [0xA6, z]
  | .ldxZpy z => [0xB6, z]
  | .ldxAbs w => [0xAE, lo w, hi w]
  | .ldxAby w => [0xBE, lo w, hi w]
  | .ldyImm v => [0xA0, v]
  | .ldyZp z => [0xA4, z]
  | .ldyZpx z => [0xB4, z]
  | .ldyAbs w => [0xAC, lo w, hi w]
  | .ldyAbx w => [0xBC, lo w, hi w]
  | .staZp z => [0x85, z]
  | .staZpx z => [0x95, z]
  | .staAbs w => [0x8D, lo w, hi w]
  | .staAbx w => [0x9D, lo w, hi w]
  | .staAby w => [0x99, lo w, hi w]
  | .staIzx z => [0x81, z]
  | .staIzy z => [0x91, z]
  | .stxZp z => [0x86, z]
  | .stxZpy z => [0x96, z]
  | .stxAbs w => [0x8E, lo w, hi w]
  | .styZp z => [0x84, z]
  | .styZpx z => [0x94, z]
  | .styAbs w => [0x8C, lo w, hi w]
  | .tax => [0xAA]
  | .tay => [0xA8]
  | .txa => [0x8A]
  | .tya => [0x98]
  | .incZp z => [0xE6, z]
  | .incZpx z => [0xF6, z]
  | .incAbs w => [0xEE, lo w, hi w]
  | .incAbx w => [0xFE, lo w, hi w]
  | .decZp z => [0xC6, z]
  | .decZpx z => [0xD6, z]
  | .decAbs w => [0xCE, lo w, hi w]
  | .decAbx w => [0xDE, lo w, hi w]
  | .inx => [0xE8]
  | .iny => [0xC8]
  | .dex => [0xCA]
  | .dey => [0x88]
  | .adcImm v => [0x69, v]
  | .adcZp z => [0x65, z]
  | .adcZpx z => [0x75, z]
  | .adcAbs w => [0x6D, lo w, hi w]
  | .adcAbx w => [0x7D, lo w, hi w]
  | .adcAby w => [0x79, lo w, hi w]
  | .adcIzx z => [0x61, z]
  | .adcIzy z => [0x71, z]
  | .sbcImm v => [0xE9, v]
  | .sbcZp z => [0xE5, z]
  | .sbcZpx z => [0xF5, z]
  | .sbcAbs w => [0xED, lo w, hi w]
  | .sbcAbx w => [0xFD, lo w, hi w]
  | .sbcAby w => [0xF9, lo w, hi w]
  | .sbcIzx z => [0xE1, z]
  | .sbcIzy z => [0xF1, z]
  | .andImm v => [0x29, v]
  | .andZp z => [0x25, z]
  | .andZpx z => [0x35, z]
  | .andAbs w => [0x2D, lo w, hi w]
  | .andAbx w => [0x3D, lo w, hi w]
  | .andAby w => [0x39, lo w, hi w]
  | .andIzx z => [0x21, z]
  | .andIzy z => [0x31, z]
  | .oraImm v => [0x09, v]
  | .oraZp z => [0x05, z]
  | .oraZpx z => [0x15, z]
  | .oraAbs w => [0x0D, lo w, hi w]
  | .oraAbx w => [0x1D, lo w, hi w]
  | .oraAby w => [0x19, lo w, hi w]
  | .oraIzx z => [0x01, z]
  | .oraIzy z => [0x11, z]
  | .eorImm v => [0x49, v]
  | .eorZp z => [0x45, z]
  | .eorZpx z => [0x55, z]
  | .eorAbs w => [0x4D, lo w, hi w]
  | .eorAbx w => [0x5D, lo w, hi w]
  | .eorAby w => [0x59, lo w, hi w]
  | .eorIzx z => [0x41, z]
  | .eorIzy z => [0x51, z]
  | .bitZp z => [0x24, z]
  | .bitAbs w => [0x2C, lo w, hi w]
  | .aslAcc => [0x0A]
  | .aslZp z => [0x06, z]
  | .aslZpx z => [0x16, z]
  | .aslAbs w => [0x0E, lo w, hi w]
  | .aslAbx w => [0x1E, lo w, hi w]
  | .lsrAcc => [0x4A]
  | .lsrZp z => [0x46, z]
  | .lsrZpx z => [0x56, z]
  | .lsrAbs w => [0x4E, lo w, hi w]
  | .lsrAbx w => [0x5E, lo w, hi w]
  | .rolAcc => [0x2A]
  | .rolZp z => [0x26, z]
  | .rolZpx z => [0x36, z]
  | .rolAbs w => [0x2E, lo w, hi w]
  | .rolAbx w => [0x3E, lo w, hi w]
  | .rorAcc => [0x6A]
  | .rorZp z => [0x66, z]
  | .rorZpx z => [0x76, z]
  | .rorAbs w => [0x6E, lo w, hi w]
  | .rorAbx w => [0x7E, lo w, hi w]
  | .cmpImm v => [0xC9, v]
  | .cmpZp z => [0xC5, z]
  | .cmpZpx z => [0xD5, z]
  | .cmpAbs w => [0xCD, lo w, hi w]
  | .cmpAbx w => [0xDD, lo w, hi w]
  | .cmpAby w => [0xD9, lo w, hi w]
  | .cmpIzx z => [0xC1, z]
  | .cmpIzy z => [0xD1, z]
  | .cpxImm v => [0xE0, v]
  | .cpxZp z => [0xE4, z]
  | .cpxAbs w => [0xEC, lo w, hi w]
  | .cpyImm v => [0xC0, v]
  | .cpyZp z => [0xC4, z]
  | .cpyAbs w => [0xCC, lo w, hi w]
  | .bcc d => [0x90, d]
  | .bcs d => [0xB0, d]
  | .beq d => [0xF0, d]
  | .bne d => [0xD0, d]
  | .bmi d => [0x30, d]
  | .bpl d => [0x10, d]
  | .bvc d => [0x50, d]
  | .bvs d => [0x70, d]
  | .jmpAbs w => [0x4C, lo w, hi w]
  | .jmpInd w => [0x6C, lo w, hi w]
  | .jsr w => [0x20, lo w, hi w]
  | .rts => [0x60]
  | .rti => [0x40]
  | .pha => [0x48]
  | .php => [0x08]
  | .pla => [0x68]
  | .plp => [0x28]
  | .txs => [0x9A]
  | .tsx => [0xBA]
  | .clc => [0x18]
  | .sec => [0x38]
  | .cli => [0x58]
  | .sei => [0x78]
  | .cld => [0xD8]
  | .sed => [0xF8]
  | .clv => [0xB8]
  | .nop => [0xEA]
  | .brk => [0x00]
  | .undoc opc => [opc]

/-- The mnemonic of an instruction (R118, R119). -/
def Instr.mnemonic : Instr → Mnemonic
  | .ldaImm _ | .ldaZp _ | .ldaZpx _ | .ldaAbs _ | .ldaAbx _ | .ldaAby _ | .ldaIzx _ | .ldaIzy _ => .LDA
  | .ldxImm _ | .ldxZp _ | .ldxZpy _ | .ldxAbs _ | .ldxAby _ => .LDX
  | .ldyImm _ | .ldyZp _ | .ldyZpx _ | .ldyAbs _ | .ldyAbx _ => .LDY
  | .staZp _ | .staZpx _ | .staAbs _ | .staAbx _ | .staAby _ | .staIzx _ | .staIzy _ => .STA
  | .stxZp _ | .stxZpy _ | .stxAbs _ => .STX
  | .styZp _ | .styZpx _ | .styAbs _ => .STY
  | .tax => .TAX
  | .tay => .TAY
  | .txa => .TXA
  | .tya => .TYA
  | .incZp _ | .incZpx _ | .incAbs _ | .incAbx _ => .INC
  | .decZp _ | .decZpx _ | .decAbs _ | .decAbx _ => .DEC
  | .inx => .INX
  | .iny => .INY
  | .dex => .DEX
  | .dey => .DEY
  | .adcImm _ | .adcZp _ | .adcZpx _ | .adcAbs _ | .adcAbx _ | .adcAby _ | .adcIzx _ | .adcIzy _ => .ADC
  | .sbcImm _ | .sbcZp _ | .sbcZpx _ | .sbcAbs _ | .sbcAbx _ | .sbcAby _ | .sbcIzx _ | .sbcIzy _ => .SBC
  | .andImm _ | .andZp _ | .andZpx _ | .andAbs _ | .andAbx _ | .andAby _ | .andIzx _ | .andIzy _ => .AND
  | .oraImm _ | .oraZp _ | .oraZpx _ | .oraAbs _ | .oraAbx _ | .oraAby _ | .oraIzx _ | .oraIzy _ => .ORA
  | .eorImm _ | .eorZp _ | .eorZpx _ | .eorAbs _ | .eorAbx _ | .eorAby _ | .eorIzx _ | .eorIzy _ => .EOR
  | .bitZp _ | .bitAbs _ => .BIT
  | .aslAcc | .aslZp _ | .aslZpx _ | .aslAbs _ | .aslAbx _ => .ASL
  | .lsrAcc | .lsrZp _ | .lsrZpx _ | .lsrAbs _ | .lsrAbx _ => .LSR
  | .rolAcc | .rolZp _ | .rolZpx _ | .rolAbs _ | .rolAbx _ => .ROL
  | .rorAcc | .rorZp _ | .rorZpx _ | .rorAbs _ | .rorAbx _ => .ROR
  | .cmpImm _ | .cmpZp _ | .cmpZpx _ | .cmpAbs _ | .cmpAbx _ | .cmpAby _ | .cmpIzx _ | .cmpIzy _ => .CMP
  | .cpxImm _ | .cpxZp _ | .cpxAbs _ => .CPX
  | .cpyImm _ | .cpyZp _ | .cpyAbs _ => .CPY
  | .bcc _ => .BCC
  | .bcs _ => .BCS
  | .beq _ => .BEQ
  | .bne _ => .BNE
  | .bmi _ => .BMI
  | .bpl _ => .BPL
  | .bvc _ => .BVC
  | .bvs _ => .BVS
  | .jmpAbs _ | .jmpInd _ => .JMP
  | .jsr _ => .JSR
  | .rts => .RTS
  | .rti => .RTI
  | .pha => .PHA
  | .php => .PHP
  | .pla => .PLA
  | .plp => .PLP
  | .txs => .TXS
  | .tsx => .TSX
  | .clc => .CLC
  | .sec => .SEC
  | .cli => .CLI
  | .sei => .SEI
  | .cld => .CLD
  | .sed => .SED
  | .clv => .CLV
  | .nop => .NOP
  | .brk => .BRK
  | .undoc _ => .UNDOC

/-- The operand of an instruction (R103, R118). -/
def Instr.operand : Instr → Operand
  | .tax | .tay | .txa | .tya | .inx | .iny | .dex | .dey | .aslAcc
  | .lsrAcc | .rolAcc | .rorAcc | .rts | .rti | .pha | .php | .pla | .plp
  | .txs | .tsx | .clc | .sec | .cli | .sei | .cld | .sed | .clv
  | .nop | .brk | .undoc _ => .implied
  | .ldaImm v | .ldxImm v | .ldyImm v | .adcImm v | .sbcImm v | .andImm v | .oraImm v | .eorImm v | .cmpImm v
  | .cpxImm v | .cpyImm v => .imm v
  | .ldaZp z | .ldxZp z | .ldyZp z | .staZp z | .stxZp z | .styZp z | .incZp z | .decZp z | .adcZp z
  | .sbcZp z | .andZp z | .oraZp z | .eorZp z | .bitZp z | .aslZp z | .lsrZp z | .rolZp z | .rorZp z
  | .cmpZp z | .cpxZp z | .cpyZp z => .zp z
  | .ldaZpx z | .ldyZpx z | .staZpx z | .styZpx z | .incZpx z | .decZpx z | .adcZpx z | .sbcZpx z | .andZpx z
  | .oraZpx z | .eorZpx z | .aslZpx z | .lsrZpx z | .rolZpx z | .rorZpx z | .cmpZpx z => .zpx z
  | .ldxZpy z | .stxZpy z => .zpy z
  | .ldaAbs w | .ldxAbs w | .ldyAbs w | .staAbs w | .stxAbs w | .styAbs w | .incAbs w | .decAbs w | .adcAbs w
  | .sbcAbs w | .andAbs w | .oraAbs w | .eorAbs w | .bitAbs w | .aslAbs w | .lsrAbs w | .rolAbs w | .rorAbs w
  | .cmpAbs w | .cpxAbs w | .cpyAbs w | .jmpAbs w | .jsr w => .abs w
  | .ldaAbx w | .ldyAbx w | .staAbx w | .incAbx w | .decAbx w | .adcAbx w | .sbcAbx w | .andAbx w | .oraAbx w
  | .eorAbx w | .aslAbx w | .lsrAbx w | .rolAbx w | .rorAbx w | .cmpAbx w => .abx w
  | .ldaAby w | .ldxAby w | .staAby w | .adcAby w | .sbcAby w | .andAby w | .oraAby w | .eorAby w | .cmpAby w => .aby w
  | .jmpInd w => .ind w
  | .ldaIzx z | .staIzx z | .adcIzx z | .sbcIzx z | .andIzx z | .oraIzx z | .eorIzx z | .cmpIzx z => .izx z
  | .ldaIzy z | .staIzy z | .adcIzy z | .sbcIzy z | .andIzy z | .oraIzy z | .eorIzy z | .cmpIzy z => .izy z
  | .bcc d | .bcs d | .beq d | .bne d | .bmi d | .bpl d | .bvc d | .bvs d => .rel d

/-- The opcode byte of an instruction: the first byte of its encoding. -/
def Instr.opcode (i : Instr) : Byte := (encode i).headD 0

/-- The three bytes an instruction window holds when a table row of `nbits` bits has the bits `w`, bits above `nbits` zero:
byte 0 in bits 7:0, byte 1 in bits 15:8, byte 2 in bits 23:16 (R100). -/
def tableBytes (nbits w : Nat) : List Byte :=
  let v := w % 2 ^ nbits
  [BitVec.ofNat 8 v, BitVec.ofNat 8 (v / 256), BitVec.ofNat 8 (v / 65536)]

/-- The instruction the decoder reads from a row of spec/opcode_table.json. -/
def decodeTableWord (nbits w : Nat) : Option Instr :=
  match decode (tableBytes nbits w) with
  | .ok (i, _) => some i
  | .error _ => none

end Sys2Proof
end

