-- ==== Sys2Proof/Machine/Params.lean ====
section
/-! DEFINITION. The parameters the machine is built with. An operation that depends on an open parameter takes `P : Params`
as its last argument; where it is left out it is `Config.params`. -/

namespace Sys2Proof

/-- The open parameters of the machine (00_scope.md R7): logs 2, 3, 4, 7, 8. -/
def Config.params : Params where
  aPowerOn := Config.aPowerOn
  xPowerOn := Config.xPowerOn
  yPowerOn := Config.yPowerOn
  cPowerOn := Config.cPowerOn
  zPowerOn := Config.zPowerOn
  vPowerOn := Config.vPowerOn
  nPowerOn := Config.nPowerOn
  memPowerOn := Config.memPowerOn
  deviceMap := Config.deviceMap
  decimalAdc := Machine.decimalAdc
  decimalSbc := Machine.decimalSbc

end Sys2Proof
end

