-- ==== Sys2Proof/Machine/Memory.lean ====
section
/-! DEFINITION. Memory: one read and one write of a byte in plain RAM, the canonical form, and the bus, which asks the device
map first (20_memory.md R70 to R74). `init` is `MEM_POWERON`, what an unlisted address reads as (R95). -/

namespace Sys2Proof.Machine

/-- The byte of plain RAM at an address (R70, R71). -/
def Memory.read (m : Memory) (a : Word) (init : Word → Byte := Config.memPowerOn) : Byte :=
  match m with
  | [] => init a
  | (k, v) :: rest => if k = a.toNat then v else Memory.read rest a init

/-- The entry `(a, v)` put in its place, over one already there. -/
def Memory.insert : Memory → Nat → Byte → Memory
  | [], a, v => [(a, v)]
  | (k, w) :: rest, a, v =>
    if a < k then (a, v) :: (k, w) :: rest
    else if a = k then (a, v) :: rest
    else (k, w) :: Memory.insert rest a v

/-- Storing a byte in plain RAM (R72); storing what an unlisted address reads as removes the entry. -/
def Memory.write (m : Memory) (a : Word) (v : Byte) (init : Word → Byte := Config.memPowerOn) : Memory :=
  if v = init a then m.filter (fun c => c.1 != a.toNat) else Memory.insert m a.toNat v

/-- The canonical form: addresses strictly rising and inside the address space, no entry equal to what the unlisted address
reads as. Equal memories are then equal lists. -/
abbrev Memory.wf (m : Memory) (init : Word → Byte := Config.memPowerOn) : Prop :=
  m.Pairwise (fun c d => c.1 < d.1) ∧ ∀ c ∈ m, c.1 < 65536 ∧ c.2 ≠ init (BitVec.ofNat 16 c.1)

/-- Whether a registration of the device seam covers an address (R74). -/
def deviceCovers (e : DeviceEntry) (a : Word) : Bool := e.first ≤ a && a ≤ e.last

/-- A read under a device map: the first matching entry's handler, else plain RAM (R74). -/
def busReadWith (devices : List DeviceEntry) (m : Memory) (a : Word) (init : Word → Byte := Config.memPowerOn) : Byte :=
  match devices.find? (fun e => deviceCovers e a) with
  | some e => e.read m a
  | none => Memory.read m a init

/-- A write under a device map: the first matching entry's handler, else plain RAM (R74). -/
def busWriteWith (devices : List DeviceEntry) (m : Memory) (a : Word) (v : Byte)
    (init : Word → Byte := Config.memPowerOn) : Memory :=
  match devices.find? (fun e => deviceCovers e a) with
  | some e => e.write m a v
  | none => Memory.write m a v init

/-- `MemRead(addr, 1)` (R71). -/
def State.load (s : State) (a : Word) (P : Params := Config.params) : Byte :=
  busReadWith P.deviceMap s.mem a P.memPowerOn

/-- `MemWrite(addr, 1, v)` (R72). -/
def State.store (s : State) (a : Word) (v : Byte) (P : Params := Config.params) : State :=
  { s with mem := busWriteWith P.deviceMap s.mem a v P.memPowerOn }

end Sys2Proof.Machine
end

