-- ==== Sys2Proof/Machine/Ops.lean ====
section
/-! DEFINITION. The operations the instructions and the engine share: register updates, the 16-bit reads (20_memory.md R76 to
R78), the stack (R79 to R81), interrupt entry (60_exceptions.md R256), the return from it (47_jump_subroutine.md R204), and the
reset operation (70_reset_and_hazards.md R280). -/

namespace Sys2Proof.Machine

/-- `A <- v` (R10, R31). -/
def State.setA (s : State) (v : Byte) : State := { s with a := v }
/-- `X <- v` (R10, R32). -/
def State.setX (s : State) (v : Byte) : State := { s with x := v }
/-- `Y <- v` (R10, R33). -/
def State.setY (s : State) (v : Byte) : State := { s with y := v }
/-- `SP <- v` (R10, R34). -/
def State.setSp (s : State) (v : Byte) : State := { s with sp := v }
/-- `PC <- w` (R10, R35). -/
def State.setPc (s : State) (w : Word) : State := { s with pc := w }
/-- The flags replaced (R10, R37). -/
def State.setFlags (s : State) (p : Flags) : State := { s with p := p }

/-- `Read16(a)`, low byte first, the second address modulo 65536 (R76). -/
def State.read16 (s : State) (a : Word) (P : Params := Config.params) : Word := wordOf (s.load (a + 1) P) (s.load a P)

/-- `Read16ZP(z)`: both bytes from the zero page (R77). -/
def State.read16ZP (s : State) (z : Byte) (P : Params := Config.params) : Word :=
  wordOf (s.load (zext16 (z + 1)) P) (s.load (zext16 z) P)

/-- `Read16Bug(a)`: the high byte from the page of the low byte (R78). -/
def State.read16Bug (s : State) (a : Word) (P : Params := Config.params) : Word :=
  wordOf (s.load (wordOf (hi a) (lo a + 1)) P) (s.load a P)

/-- The address of the stack slot an offset designates, `0x0100 + SP` (R79). -/
def stackAddr (sp : Byte) : Word := wordOf 0x01 sp

/-- `Push(v)`: write, then decrement (R80). -/
def State.push (s : State) (v : Byte) (P : Params := Config.params) : State :=
  (s.store (stackAddr s.sp) v P).setSp (s.sp - 1)

/-- The byte `Pull()` returns: increment, then read (R81). -/
def State.pulled (s : State) (P : Params := Config.params) : Byte := s.load (stackAddr (s.sp + 1)) P

/-- The state `Pull()` leaves (R81); the slot is not erased. -/
def State.pop (s : State) : State := s.setSp (s.sp + 1)

/-- NMI vector (R86). -/
def nmiVector : Word := 0xFFFA
/-- Reset vector (R86). -/
def resetVector : Word := 0xFFFC
/-- IRQ/BRK vector (R86). -/
def irqVector : Word := 0xFFFE

/-- `InterruptEntry(vector, b, ret)` (R256): push the return address high byte first, then the status byte with bit 4 = `b`
and `I` as it was, set `I`, load `PC` from the vector. `D` is unchanged. -/
def interruptEntry (vector : Word) (b : Bool) (ret : Word) (s : State)
    (P : Params := Config.params) : State :=
  let t := ((s.push (hi ret) P).push (lo ret) P).push (statusByte b s.p) P
  (t.setFlags { t.p with i := true }).setPc (t.read16 vector P)

/-- The return from interrupt (R204): status through LoadStatus, then `PC` low, then `PC` high; no `+ 1`. -/
def interruptReturn (s : State) (P : Params := Config.params) : State :=
  let s1 := s.pop.setFlags (loadStatus (s.pulled P))
  let s2 := s1.pop
  s2.pop.setPc (wordOf (s2.pulled P) (s1.pulled P))

/-- `Reset(nmi)` (R280): `A`, `X`, `Y`, `C`, `Z`, `V`, `N` and memory are unchanged. -/
def resetOp (nmi : Bool) (s : State) (P : Params := Config.params) : State :=
  { s with
    pc := s.read16 resetVector P
    sp := 0xFD
    p := { s.p with i := true, d := false, b := false }
    cyclesRemaining := 7
    op := .resetWait
    irqLatch := false
    nmiPending := false
    nmiPrev := nmi
    halted := false }

/-- A state at power-on (R283, 10_state.md R58): the open parameters in the registers, flags and memory the reset operation
does not write. What it writes has a placeholder here. -/
def powerOn (P : Params := Config.params) : State where
  a := P.aPowerOn
  x := P.xPowerOn
  y := P.yPowerOn
  sp := 0
  pc := 0
  p := { n := P.nPowerOn, v := P.vPowerOn, b := false, d := false, i := false, z := P.zPowerOn, c := P.cPowerOn }
  cyclesRemaining := 0
  op := .instr
  irqLatch := false
  nmiPending := false
  nmiPrev := false
  halted := false
  mem := []
  calls := []
  diag := none
  cyclesOut := none

end Sys2Proof.Machine
end

