-- ==== Sys2Proof/Machine/Operands.lean ====
section
/-! DEFINITION. The addressing-mode resolver (30_encoding.md R104 to R116) and the ways an instruction uses what it yields
(R13, R36, R122). -/

namespace Sys2Proof.Machine

/-- What a mode resolves to: nothing, an immediate byte, or an effective address (R104). -/
inductive Resolved where
  | none
  | imm (v : Byte)
  | addr (ea : Word)
  deriving DecidableEq, Repr

/-- An indexed address and its page-cross bit: `ea = (base + index) mod 65536`, cross when the high byte changes (R111,
R112, R115). -/
def indexed (base : Word) (index : Word) : Resolved × Bool :=
  (.addr (base + index), hi (base + index) != hi base)

/-- `Resolve(mode, pc0)`: the operand and the page-cross bit; `s.pc` is `pc0`. It writes nothing (R104). -/
def resolve (o : Operand) (s : State) (P : Params := Config.params) : Resolved × Bool :=
  match o with
  | .implied => (.none, false)                                    -- R105
  | .imm v => (.imm v, false)                                     -- R106
  | .zp z => (.addr (zext16 z), false)                            -- R107
  | .zpx z => (.addr (zext16 (z + s.x)), false)                   -- R108
  | .zpy z => (.addr (zext16 (z + s.y)), false)                   -- R109
  | .abs w => (.addr w, false)                                    -- R110
  | .abx w => indexed w (zext16 s.x)                              -- R111
  | .aby w => indexed w (zext16 s.y)                              -- R112
  | .ind w => (.addr (s.read16Bug w P), false)                    -- R113
  | .izx z => (.addr (s.read16ZP (z + s.x) P), false)             -- R114
  | .izy z => indexed (s.read16ZP z P) (zext16 s.y)               -- R115
  | .rel d => indexed (s.pc + 2) (sext16 d)                       -- R116

/-- The effective address, where the mode yields one (R13). -/
def effAddr (o : Operand) (s : State) (P : Params := Config.params) : Option Word :=
  match (resolve o s P).1 with
  | .addr ea => some ea
  | .imm _ | .none => none

/-- The operand value `M` (R13): the immediate byte, the byte at the effective address, or for an accumulator form the
accumulator (R175). -/
def operandValue (o : Operand) (s : State) (P : Params := Config.params) : Byte :=
  match (resolve o s P).1 with
  | .addr ea => s.load ea P
  | .imm v => v
  | .none => s.a

/-- Writing a result back where the operand came from (R175): memory or, for an accumulator form, `A`. An immediate operand
never writes (R106). -/
def writeBack (o : Operand) (v : Byte) (s : State) (P : Params := Config.params) : State :=
  match (resolve o s P).1 with
  | .addr ea => s.store ea v P
  | .imm _ => s
  | .none => s.setA v

/-- `next = (pc0 + d.length) mod 65536` (R13, R36). -/
def nextPc (o : Operand) (s : State) : Word := s.pc + BitVec.ofNat 16 o.mode.length

/-- `PC <- next` (R36). -/
def advance (o : Operand) (s : State) : State := s.setPc (nextPc o s)

/-- `PC <- ea` for the modes that yield a target (R122, R190, R201); a mode without an address leads on to `next`. -/
def jumpTo (o : Operand) (s : State) (P : Params := Config.params) : State :=
  s.setPc ((effAddr o s P).getD (nextPc o s))

end Sys2Proof.Machine
end

