-- ==== Sys2Proof/Machine/Arithmetic.lean ====
section
/-! DEFINITION. Add and subtract with carry (43_arithmetic.md R160 to R165), binary or decimal by `D`. -/

namespace Sys2Proof.Machine

/-- `ADC` (R161): `A`, `C`, `Z`, `V`, `N` from the add of `A`, `M` and `C`. -/
def opAdc (o : Operand) (s : State) (P : Params := Config.params) : State :=
  let r := adcResult P.decimalAdc s.p.d s.a (operandValue o s P) s.p.c
  advance o ((s.setA r.value).setFlags (s.p.ofAlu r))

/-- `$69`, `ADC` Immediate (R161). -/
def execAdcImm (v : Byte) (s : State) (P : Params := Config.params) : Host.Outcome State Fault Refusal :=
  .next (opAdc (.imm v) s P)

/-- `$65`, `ADC` ZeroPage (R161). -/
def execAdcZp (z : Byte) (s : State) (P : Params := Config.params) : Host.Outcome State Fault Refusal :=
  .next (opAdc (.zp z) s P)

/-- `$75`, `ADC` ZeroPageX (R161). -/
def execAdcZpx (z : Byte) (s : State) (P : Params := Config.params) : Host.Outcome State Fault Refusal :=
  .next (opAdc (.zpx z) s P)

/-- `$6D`, `ADC` Absolute (R161). -/
def execAdcAbs (w : Word) (s : State) (P : Params := Config.params) : Host.Outcome State Fault Refusal :=
  .next (opAdc (.abs w) s P)

/-- `$7D`, `ADC` AbsoluteX (R161). -/
def execAdcAbx (w : Word) (s : State) (P : Params := Config.params) : Host.Outcome State Fault Refusal :=
  .next (opAdc (.abx w) s P)

/-- `$79`, `ADC` AbsoluteY (R161). -/
def execAdcAby (w : Word) (s : State) (P : Params := Config.params) : Host.Outcome State Fault Refusal :=
  .next (opAdc (.aby w) s P)

/-- `$61`, `ADC` IndirectX (R161). -/
def execAdcIzx (z : Byte) (s : State) (P : Params := Config.params) : Host.Outcome State Fault Refusal :=
  .next (opAdc (.izx z) s P)

/-- `$71`, `ADC` IndirectY (R161). -/
def execAdcIzy (z : Byte) (s : State) (P : Params := Config.params) : Host.Outcome State Fault Refusal :=
  .next (opAdc (.izy z) s P)

/-- `SBC` (R164): `A`, `C`, `Z`, `V`, `N` from the subtract of `M` and the borrow from `A`. -/
def opSbc (o : Operand) (s : State) (P : Params := Config.params) : State :=
  let r := sbcResult P.decimalSbc s.p.d s.a (operandValue o s P) s.p.c
  advance o ((s.setA r.value).setFlags (s.p.ofAlu r))

/-- `$E9`, `SBC` Immediate (R164). -/
def execSbcImm (v : Byte) (s : State) (P : Params := Config.params) : Host.Outcome State Fault Refusal :=
  .next (opSbc (.imm v) s P)

/-- `$E5`, `SBC` ZeroPage (R164). -/
def execSbcZp (z : Byte) (s : State) (P : Params := Config.params) : Host.Outcome State Fault Refusal :=
  .next (opSbc (.zp z) s P)

/-- `$F5`, `SBC` ZeroPageX (R164). -/
def execSbcZpx (z : Byte) (s : State) (P : Params := Config.params) : Host.Outcome State Fault Refusal :=
  .next (opSbc (.zpx z) s P)

/-- `$ED`, `SBC` Absolute (R164). -/
def execSbcAbs (w : Word) (s : State) (P : Params := Config.params) : Host.Outcome State Fault Refusal :=
  .next (opSbc (.abs w) s P)

/-- `$FD`, `SBC` AbsoluteX (R164). -/
def execSbcAbx (w : Word) (s : State) (P : Params := Config.params) : Host.Outcome State Fault Refusal :=
  .next (opSbc (.abx w) s P)

/-- `$F9`, `SBC` AbsoluteY (R164). -/
def execSbcAby (w : Word) (s : State) (P : Params := Config.params) : Host.Outcome State Fault Refusal :=
  .next (opSbc (.aby w) s P)

/-- `$E1`, `SBC` IndirectX (R164). -/
def execSbcIzx (z : Byte) (s : State) (P : Params := Config.params) : Host.Outcome State Fault Refusal :=
  .next (opSbc (.izx z) s P)

/-- `$F1`, `SBC` IndirectY (R164). -/
def execSbcIzy (z : Byte) (s : State) (P : Params := Config.params) : Host.Outcome State Fault Refusal :=
  .next (opSbc (.izy z) s P)

end Sys2Proof.Machine
end

