-- ==== Sys2Proof/Machine/Branch.lean ====
section
/-! DEFINITION. Conditional branches (46_branch.md R190 to R198). -/

namespace Sys2Proof.Machine

/-- `if taken then PC <- target else PC <- next` (R190). No flag, register or memory byte changes. -/
def branchIf (taken : Bool) (o : Operand) (s : State) (P : Params := Config.params) : State :=
  if taken then jumpTo o s P else advance o s

/-- `BCC` (R191): branch if `C = 0`. -/
def opBcc (o : Operand) (s : State) (P : Params := Config.params) : State := branchIf (branchTaken .BCC s.p) o s P

/-- `$90`, `BCC` Relative (R191). -/
def execBcc (d : Byte) (s : State) (P : Params := Config.params) : Host.Outcome State Fault Refusal :=
  .next (opBcc (.rel d) s P)

/-- `BCS` (R192): branch if `C = 1`. -/
def opBcs (o : Operand) (s : State) (P : Params := Config.params) : State := branchIf (branchTaken .BCS s.p) o s P

/-- `$B0`, `BCS` Relative (R192). -/
def execBcs (d : Byte) (s : State) (P : Params := Config.params) : Host.Outcome State Fault Refusal :=
  .next (opBcs (.rel d) s P)

/-- `BEQ` (R193): branch if `Z = 1`. -/
def opBeq (o : Operand) (s : State) (P : Params := Config.params) : State := branchIf (branchTaken .BEQ s.p) o s P

/-- `$F0`, `BEQ` Relative (R193). -/
def execBeq (d : Byte) (s : State) (P : Params := Config.params) : Host.Outcome State Fault Refusal :=
  .next (opBeq (.rel d) s P)

/-- `BNE` (R194): branch if `Z = 0`. -/
def opBne (o : Operand) (s : State) (P : Params := Config.params) : State := branchIf (branchTaken .BNE s.p) o s P

/-- `$D0`, `BNE` Relative (R194). -/
def execBne (d : Byte) (s : State) (P : Params := Config.params) : Host.Outcome State Fault Refusal :=
  .next (opBne (.rel d) s P)

/-- `BMI` (R195): branch if `N = 1`. -/
def opBmi (o : Operand) (s : State) (P : Params := Config.params) : State := branchIf (branchTaken .BMI s.p) o s P

/-- `$30`, `BMI` Relative (R195). -/
def execBmi (d : Byte) (s : State) (P : Params := Config.params) : Host.Outcome State Fault Refusal :=
  .next (opBmi (.rel d) s P)

/-- `BPL` (R196): branch if `N = 0`. -/
def opBpl (o : Operand) (s : State) (P : Params := Config.params) : State := branchIf (branchTaken .BPL s.p) o s P

/-- `$10`, `BPL` Relative (R196). -/
def execBpl (d : Byte) (s : State) (P : Params := Config.params) : Host.Outcome State Fault Refusal :=
  .next (opBpl (.rel d) s P)

/-- `BVC` (R197): branch if `V = 0`. -/
def opBvc (o : Operand) (s : State) (P : Params := Config.params) : State := branchIf (branchTaken .BVC s.p) o s P

/-- `$50`, `BVC` Relative (R197). -/
def execBvc (d : Byte) (s : State) (P : Params := Config.params) : Host.Outcome State Fault Refusal :=
  .next (opBvc (.rel d) s P)

/-- `BVS` (R198): branch if `V = 1`. -/
def opBvs (o : Operand) (s : State) (P : Params := Config.params) : State := branchIf (branchTaken .BVS s.p) o s P

/-- `$70`, `BVS` Relative (R198). -/
def execBvs (d : Byte) (s : State) (P : Params := Config.params) : Host.Outcome State Fault Refusal :=
  .next (opBvs (.rel d) s P)

end Sys2Proof.Machine
end

