-- ==== Sys2Proof/Machine/Compare.lean ====
section
/-! DEFINITION. Compare instructions (45_compare.md R185 to R188). -/

namespace Sys2Proof.Machine

/-- `CMP` (R186): flags of `A - M`; nothing stored. -/
def opCmp (o : Operand) (s : State) (P : Params := Config.params) : State :=
  advance o (s.setFlags (s.p.compare s.a (operandValue o s P)))

/-- `$C9`, `CMP` Immediate (R186). -/
def execCmpImm (v : Byte) (s : State) (P : Params := Config.params) : Host.Outcome State Fault Refusal :=
  .next (opCmp (.imm v) s P)

/-- `$C5`, `CMP` ZeroPage (R186). -/
def execCmpZp (z : Byte) (s : State) (P : Params := Config.params) : Host.Outcome State Fault Refusal :=
  .next (opCmp (.zp z) s P)

/-- `$D5`, `CMP` ZeroPageX (R186). -/
def execCmpZpx (z : Byte) (s : State) (P : Params := Config.params) : Host.Outcome State Fault Refusal :=
  .next (opCmp (.zpx z) s P)

/-- `$CD`, `CMP` Absolute (R186). -/
def execCmpAbs (w : Word) (s : State) (P : Params := Config.params) : Host.Outcome State Fault Refusal :=
  .next (opCmp (.abs w) s P)

/-- `$DD`, `CMP` AbsoluteX (R186). -/
def execCmpAbx (w : Word) (s : State) (P : Params := Config.params) : Host.Outcome State Fault Refusal :=
  .next (opCmp (.abx w) s P)

/-- `$D9`, `CMP` AbsoluteY (R186). -/
def execCmpAby (w : Word) (s : State) (P : Params := Config.params) : Host.Outcome State Fault Refusal :=
  .next (opCmp (.aby w) s P)

/-- `$C1`, `CMP` IndirectX (R186). -/
def execCmpIzx (z : Byte) (s : State) (P : Params := Config.params) : Host.Outcome State Fault Refusal :=
  .next (opCmp (.izx z) s P)

/-- `$D1`, `CMP` IndirectY (R186). -/
def execCmpIzy (z : Byte) (s : State) (P : Params := Config.params) : Host.Outcome State Fault Refusal :=
  .next (opCmp (.izy z) s P)

/-- `CPX` (R187): flags of `X - M`; nothing stored. -/
def opCpx (o : Operand) (s : State) (P : Params := Config.params) : State :=
  advance o (s.setFlags (s.p.compare s.x (operandValue o s P)))

/-- `$E0`, `CPX` Immediate (R187). -/
def execCpxImm (v : Byte) (s : State) (P : Params := Config.params) : Host.Outcome State Fault Refusal :=
  .next (opCpx (.imm v) s P)

/-- `$E4`, `CPX` ZeroPage (R187). -/
def execCpxZp (z : Byte) (s : State) (P : Params := Config.params) : Host.Outcome State Fault Refusal :=
  .next (opCpx (.zp z) s P)

/-- `$EC`, `CPX` Absolute (R187). -/
def execCpxAbs (w : Word) (s : State) (P : Params := Config.params) : Host.Outcome State Fault Refusal :=
  .next (opCpx (.abs w) s P)

/-- `CPY` (R188): flags of `Y - M`; nothing stored. -/
def opCpy (o : Operand) (s : State) (P : Params := Config.params) : State :=
  advance o (s.setFlags (s.p.compare s.y (operandValue o s P)))

/-- `$C0`, `CPY` Immediate (R188). -/
def execCpyImm (v : Byte) (s : State) (P : Params := Config.params) : Host.Outcome State Fault Refusal :=
  .next (opCpy (.imm v) s P)

/-- `$C4`, `CPY` ZeroPage (R188). -/
def execCpyZp (z : Byte) (s : State) (P : Params := Config.params) : Host.Outcome State Fault Refusal :=
  .next (opCpy (.zp z) s P)

/-- `$CC`, `CPY` Absolute (R188). -/
def execCpyAbs (w : Word) (s : State) (P : Params := Config.params) : Host.Outcome State Fault Refusal :=
  .next (opCpy (.abs w) s P)

end Sys2Proof.Machine
end

