-- ==== Sys2Proof/Machine/FlagNopBrk.lean ====
section
/-! DEFINITION. Flag instructions, NOP, BRK and the undocumented-opcode sentinel (49_flag_nop_brk.md R220 to R231). -/

namespace Sys2Proof.Machine

/-- `CLC` (R221): `C <- 0; PC <- next`. -/
def opClc (s : State) : State := advance .implied (s.setFlags { s.p with c := false })

/-- `$18`, `CLC` Implied (R221). -/
def execClc (s : State) : Host.Outcome State Fault Refusal := .next (opClc s)

/-- `SEC` (R222): `C <- 1; PC <- next`. -/
def opSec (s : State) : State := advance .implied (s.setFlags { s.p with c := true })

/-- `$38`, `SEC` Implied (R222). -/
def execSec (s : State) : Host.Outcome State Fault Refusal := .next (opSec s)

/-- `CLI` (R223): `I <- 0; PC <- next`. -/
def opCli (s : State) : State := advance .implied (s.setFlags { s.p with i := false })

/-- `$58`, `CLI` Implied (R223). -/
def execCli (s : State) : Host.Outcome State Fault Refusal := .next (opCli s)

/-- `SEI` (R224): `I <- 1; PC <- next`. -/
def opSei (s : State) : State := advance .implied (s.setFlags { s.p with i := true })

/-- `$78`, `SEI` Implied (R224). -/
def execSei (s : State) : Host.Outcome State Fault Refusal := .next (opSei s)

/-- `CLD` (R225): `D <- 0; PC <- next`. -/
def opCld (s : State) : State := advance .implied (s.setFlags { s.p with d := false })

/-- `$D8`, `CLD` Implied (R225). -/
def execCld (s : State) : Host.Outcome State Fault Refusal := .next (opCld s)

/-- `SED` (R226): `D <- 1; PC <- next`. -/
def opSed (s : State) : State := advance .implied (s.setFlags { s.p with d := true })

/-- `$F8`, `SED` Implied (R226). -/
def execSed (s : State) : Host.Outcome State Fault Refusal := .next (opSed s)

/-- `CLV` (R227): `V <- 0; PC <- next`. -/
def opClv (s : State) : State := advance .implied (s.setFlags { s.p with v := false })

/-- `$B8`, `CLV` Implied (R227). -/
def execClv (s : State) : Host.Outcome State Fault Refusal := .next (opClv s)

/-- `NOP` (R228): `PC <- next`. -/
def opNop (s : State) : State := advance .implied s

/-- `$EA`, `NOP` Implied (R228). -/
def execNop (s : State) : Host.Outcome State Fault Refusal := .next (opNop s)

/-- `BRK` (R230): `B <- 1`; interrupt entry through $FFFE with the stored `B` and return address `pc0 + 2`; `B <- 0`. -/
def opBrk (s : State) (P : Params := Config.params) : State :=
  let s1 := s.setFlags { s.p with b := true }
  let s2 := interruptEntry irqVector s1.p.b (s.pc + 2) s1 P
  s2.setFlags { s2.p with b := false }

/-- `$00`, `BRK` Implied (R230). -/
def execBrk (s : State) (P : Params := Config.params) : Host.Outcome State Fault Refusal := .next (opBrk s P)

/-- `???` (R231): `PC <- (pc0 + 1) mod 65536`, the diagnostic output shows the opcode and its address, nothing else. -/
def opUndoc (opc : Byte) (s : State) : State :=
  { advance .implied s with diag := some (.unknownOpcode opc s.pc) }

/-- The 105 sentinel bytes (R231). -/
def execUndoc (opc : Byte) (s : State) : Host.Outcome State Fault Refusal := .next (opUndoc opc s)

end Sys2Proof.Machine
end

