-- ==== Sys2Proof/Machine/IncDec.lean ====
section
/-! DEFINITION. Increment and decrement instructions (42_inc_dec.md R150 to R156). `C` and `V` are neither read nor written. -/

namespace Sys2Proof.Machine

/-- `INC` (R151): `r = (v + 1) mod 256`, written back to `ea`; `SetZN(r)`. -/
def opInc (o : Operand) (s : State) (P : Params := Config.params) : State :=
  let r := operandValue o s P + 1
  advance o ((writeBack o r s P).setFlags (s.p.setZN r))

/-- `$E6`, `INC` ZeroPage (R151). -/
def execIncZp (z : Byte) (s : State) (P : Params := Config.params) : Host.Outcome State Fault Refusal :=
  .next (opInc (.zp z) s P)

/-- `$F6`, `INC` ZeroPageX (R151). -/
def execIncZpx (z : Byte) (s : State) (P : Params := Config.params) : Host.Outcome State Fault Refusal :=
  .next (opInc (.zpx z) s P)

/-- `$EE`, `INC` Absolute (R151). -/
def execIncAbs (w : Word) (s : State) (P : Params := Config.params) : Host.Outcome State Fault Refusal :=
  .next (opInc (.abs w) s P)

/-- `$FE`, `INC` AbsoluteX (R151). -/
def execIncAbx (w : Word) (s : State) (P : Params := Config.params) : Host.Outcome State Fault Refusal :=
  .next (opInc (.abx w) s P)

/-- `DEC` (R152): `r = (v - 1) mod 256`, written back to `ea`; `SetZN(r)`. -/
def opDec (o : Operand) (s : State) (P : Params := Config.params) : State :=
  let r := operandValue o s P - 1
  advance o ((writeBack o r s P).setFlags (s.p.setZN r))

/-- `$C6`, `DEC` ZeroPage (R152). -/
def execDecZp (z : Byte) (s : State) (P : Params := Config.params) : Host.Outcome State Fault Refusal :=
  .next (opDec (.zp z) s P)

/-- `$D6`, `DEC` ZeroPageX (R152). -/
def execDecZpx (z : Byte) (s : State) (P : Params := Config.params) : Host.Outcome State Fault Refusal :=
  .next (opDec (.zpx z) s P)

/-- `$CE`, `DEC` Absolute (R152). -/
def execDecAbs (w : Word) (s : State) (P : Params := Config.params) : Host.Outcome State Fault Refusal :=
  .next (opDec (.abs w) s P)

/-- `$DE`, `DEC` AbsoluteX (R152). -/
def execDecAbx (w : Word) (s : State) (P : Params := Config.params) : Host.Outcome State Fault Refusal :=
  .next (opDec (.abx w) s P)

/-- `INX` (R153): `X <- (X + 1) mod 256; SetZN(X)`. -/
def opInx (s : State) : State := advance .implied ((s.setX (s.x + 1)).setFlags (s.p.setZN (s.x + 1)))

/-- `$E8`, `INX` Implied (R153). -/
def execInx (s : State) : Host.Outcome State Fault Refusal := .next (opInx s)

/-- `INY` (R154): `Y <- (Y + 1) mod 256; SetZN(Y)`. -/
def opIny (s : State) : State := advance .implied ((s.setY (s.y + 1)).setFlags (s.p.setZN (s.y + 1)))

/-- `$C8`, `INY` Implied (R154). -/
def execIny (s : State) : Host.Outcome State Fault Refusal := .next (opIny s)

/-- `DEX` (R155): `X <- (X - 1) mod 256; SetZN(X)`. -/
def opDex (s : State) : State := advance .implied ((s.setX (s.x - 1)).setFlags (s.p.setZN (s.x - 1)))

/-- `$CA`, `DEX` Implied (R155). -/
def execDex (s : State) : Host.Outcome State Fault Refusal := .next (opDex s)

/-- `DEY` (R156): `Y <- (Y - 1) mod 256; SetZN(Y)`. -/
def opDey (s : State) : State := advance .implied ((s.setY (s.y - 1)).setFlags (s.p.setZN (s.y - 1)))

/-- `$88`, `DEY` Implied (R156). -/
def execDey (s : State) : Host.Outcome State Fault Refusal := .next (opDey s)

end Sys2Proof.Machine
end

