-- ==== Sys2Proof/Machine/Jump.lean ====
section
/-! DEFINITION. Jump, subroutine and return instructions (47_jump_subroutine.md R200 to R204). -/

namespace Sys2Proof.Machine

/-- `JMP` (R201): `PC <- ea`; the byte at `ea` is not read. -/
def opJmp (o : Operand) (s : State) (P : Params := Config.params) : State := jumpTo o s P

/-- `$4C`, `JMP` Absolute (R201). -/
def execJmpAbs (w : Word) (s : State) (P : Params := Config.params) : Host.Outcome State Fault Refusal :=
  .next (opJmp (.abs w) s P)

/-- `$6C`, `JMP` Indirect (R201). -/
def execJmpInd (w : Word) (s : State) (P : Params := Config.params) : Host.Outcome State Fault Refusal :=
  .next (opJmp (.ind w) s P)

/-- `JSR` (R202): push `(pc0 + 2) mod 65536`, high byte first; `PC <- target`. -/
def opJsr (o : Operand) (s : State) (P : Params := Config.params) : State :=
  let ret := s.pc + 2
  ((s.push (hi ret) P).push (lo ret) P).setPc ((effAddr o s P).getD (nextPc o s))

/-- `$20`, `JSR` Absolute (R202). -/
def execJsr (w : Word) (s : State) (P : Params := Config.params) : Host.Outcome State Fault Refusal :=
  .next (opJsr (.abs w) s P)

/-- `RTS` (R203): pull low, pull high; `PC <- (l + 256*h + 1) mod 65536`. -/
def opRts (s : State) (P : Params := Config.params) : State :=
  let s1 := s.pop
  s1.pop.setPc (wordOf (s1.pulled P) (s.pulled P) + 1)

/-- `$60`, `RTS` Implied (R203). -/
def execRts (s : State) (P : Params := Config.params) : Host.Outcome State Fault Refusal := .next (opRts s P)

/-- `RTI` (R204): the return from interrupt. -/
def opRti (s : State) (P : Params := Config.params) : State := interruptReturn s P

/-- `$40`, `RTI` Implied (R204). -/
def execRti (s : State) (P : Params := Config.params) : Host.Outcome State Fault Refusal := .next (opRti s P)

end Sys2Proof.Machine
end

