-- ==== Sys2Proof/Machine/LoadStore.lean ====
section
/-! DEFINITION. Load and store instructions (40_load_store.md R130 to R136). -/

namespace Sys2Proof.Machine

/-- `LDA` (R131): `A <- M; SetZN(M); PC <- next`. -/
def opLda (o : Operand) (s : State) (P : Params := Config.params) : State :=
  let m := operandValue o s P
  advance o ((s.setA m).setFlags (s.p.setZN m))

/-- `$A9`, `LDA` Immediate (R131). -/
def execLdaImm (v : Byte) (s : State) (P : Params := Config.params) : Host.Outcome State Fault Refusal :=
  .next (opLda (.imm v) s P)

/-- `$A5`, `LDA` ZeroPage (R131). -/
def execLdaZp (z : Byte) (s : State) (P : Params := Config.params) : Host.Outcome State Fault Refusal :=
  .next (opLda (.zp z) s P)

/-- `$B5`, `LDA` ZeroPageX (R131). -/
def execLdaZpx (z : Byte) (s : State) (P : Params := Config.params) : Host.Outcome State Fault Refusal :=
  .next (opLda (.zpx z) s P)

/-- `$AD`, `LDA` Absolute (R131). -/
def execLdaAbs (w : Word) (s : State) (P : Params := Config.params) : Host.Outcome State Fault Refusal :=
  .next (opLda (.abs w) s P)

/-- `$BD`, `LDA` AbsoluteX (R131). -/
def execLdaAbx (w : Word) (s : State) (P : Params := Config.params) : Host.Outcome State Fault Refusal :=
  .next (opLda (.abx w) s P)

/-- `$B9`, `LDA` AbsoluteY (R131). -/
def execLdaAby (w : Word) (s : State) (P : Params := Config.params) : Host.Outcome State Fault Refusal :=
  .next (opLda (.aby w) s P)

/-- `$A1`, `LDA` IndirectX (R131). -/
def execLdaIzx (z : Byte) (s : State) (P : Params := Config.params) : Host.Outcome State Fault Refusal :=
  .next (opLda (.izx z) s P)

/-- `$B1`, `LDA` IndirectY (R131). -/
def execLdaIzy (z : Byte) (s : State) (P : Params := Config.params) : Host.Outcome State Fault Refusal :=
  .next (opLda (.izy z) s P)

/-- `LDX` (R132): `X <- M; SetZN(M); PC <- next`. -/
def opLdx (o : Operand) (s : State) (P : Params := Config.params) : State :=
  let m := operandValue o s P
  advance o ((s.setX m).setFlags (s.p.setZN m))

/-- `$A2`, `LDX` Immediate (R132). -/
def execLdxImm (v : Byte) (s : State) (P : Params := Config.params) : Host.Outcome State Fault Refusal :=
  .next (opLdx (.imm v) s P)

/-- `$A6`, `LDX` ZeroPage (R132). -/
def execLdxZp (z : Byte) (s : State) (P : Params := Config.params) : Host.Outcome State Fault Refusal :=
  .next (opLdx (.zp z) s P)

/-- `$B6`, `LDX` ZeroPageY (R132). -/
def execLdxZpy (z : Byte) (s : State) (P : Params := Config.params) : Host.Outcome State Fault Refusal :=
  .next (opLdx (.zpy z) s P)

/-- `$AE`, `LDX` Absolute (R132). -/
def execLdxAbs (w : Word) (s : State) (P : Params := Config.params) : Host.Outcome State Fault Refusal :=
  .next (opLdx (.abs w) s P)

/-- `$BE`, `LDX` AbsoluteY (R132). -/
def execLdxAby (w : Word) (s : State) (P : Params := Config.params) : Host.Outcome State Fault Refusal :=
  .next (opLdx (.aby w) s P)

/-- `LDY` (R133): `Y <- M; SetZN(M); PC <- next`. -/
def opLdy (o : Operand) (s : State) (P : Params := Config.params) : State :=
  let m := operandValue o s P
  advance o ((s.setY m).setFlags (s.p.setZN m))

/-- `$A0`, `LDY` Immediate (R133). -/
def execLdyImm (v : Byte) (s : State) (P : Params := Config.params) : Host.Outcome State Fault Refusal :=
  .next (opLdy (.imm v) s P)

/-- `$A4`, `LDY` ZeroPage (R133). -/
def execLdyZp (z : Byte) (s : State) (P : Params := Config.params) : Host.Outcome State Fault Refusal :=
  .next (opLdy (.zp z) s P)

/-- `$B4`, `LDY` ZeroPageX (R133). -/
def execLdyZpx (z : Byte) (s : State) (P : Params := Config.params) : Host.Outcome State Fault Refusal :=
  .next (opLdy (.zpx z) s P)

/-- `$AC`, `LDY` Absolute (R133). -/
def execLdyAbs (w : Word) (s : State) (P : Params := Config.params) : Host.Outcome State Fault Refusal :=
  .next (opLdy (.abs w) s P)

/-- `$BC`, `LDY` AbsoluteX (R133). -/
def execLdyAbx (w : Word) (s : State) (P : Params := Config.params) : Host.Outcome State Fault Refusal :=
  .next (opLdy (.abx w) s P)

/-- `STA` (R134): `MemWrite(ea, 1, A); PC <- next`; no flag changes. -/
def opSta (o : Operand) (s : State) (P : Params := Config.params) : State := advance o (writeBack o s.a s P)

/-- `$85`, `STA` ZeroPage (R134). -/
def execStaZp (z : Byte) (s : State) (P : Params := Config.params) : Host.Outcome State Fault Refusal :=
  .next (opSta (.zp z) s P)

/-- `$95`, `STA` ZeroPageX (R134). -/
def execStaZpx (z : Byte) (s : State) (P : Params := Config.params) : Host.Outcome State Fault Refusal :=
  .next (opSta (.zpx z) s P)

/-- `$8D`, `STA` Absolute (R134). -/
def execStaAbs (w : Word) (s : State) (P : Params := Config.params) : Host.Outcome State Fault Refusal :=
  .next (opSta (.abs w) s P)

/-- `$9D`, `STA` AbsoluteX (R134). -/
def execStaAbx (w : Word) (s : State) (P : Params := Config.params) : Host.Outcome State Fault Refusal :=
  .next (opSta (.abx w) s P)

/-- `$99`, `STA` AbsoluteY (R134). -/
def execStaAby (w : Word) (s : State) (P : Params := Config.params) : Host.Outcome State Fault Refusal :=
  .next (opSta (.aby w) s P)

/-- `$81`, `STA` IndirectX (R134). -/
def execStaIzx (z : Byte) (s : State) (P : Params := Config.params) : Host.Outcome State Fault Refusal :=
  .next (opSta (.izx z) s P)

/-- `$91`, `STA` IndirectY (R134). -/
def execStaIzy (z : Byte) (s : State) (P : Params := Config.params) : Host.Outcome State Fault Refusal :=
  .next (opSta (.izy z) s P)

/-- `STX` (R135): `MemWrite(ea, 1, X); PC <- next`; no flag changes. -/
def opStx (o : Operand) (s : State) (P : Params := Config.params) : State := advance o (writeBack o s.x s P)

/-- `$86`, `STX` ZeroPage (R135). -/
def execStxZp (z : Byte) (s : State) (P : Params := Config.params) : Host.Outcome State Fault Refusal :=
  .next (opStx (.zp z) s P)

/-- `$96`, `STX` ZeroPageY (R135). -/
def execStxZpy (z : Byte) (s : State) (P : Params := Config.params) : Host.Outcome State Fault Refusal :=
  .next (opStx (.zpy z) s P)

/-- `$8E`, `STX` Absolute (R135). -/
def execStxAbs (w : Word) (s : State) (P : Params := Config.params) : Host.Outcome State Fault Refusal :=
  .next (opStx (.abs w) s P)

/-- `STY` (R136): `MemWrite(ea, 1, Y); PC <- next`; no flag changes. -/
def opSty (o : Operand) (s : State) (P : Params := Config.params) : State := advance o (writeBack o s.y s P)

/-- `$84`, `STY` ZeroPage (R136). -/
def execStyZp (z : Byte) (s : State) (P : Params := Config.params) : Host.Outcome State Fault Refusal :=
  .next (opSty (.zp z) s P)

/-- `$94`, `STY` ZeroPageX (R136). -/
def execStyZpx (z : Byte) (s : State) (P : Params := Config.params) : Host.Outcome State Fault Refusal :=
  .next (opSty (.zpx z) s P)

/-- `$8C`, `STY` Absolute (R136). -/
def execStyAbs (w : Word) (s : State) (P : Params := Config.params) : Host.Outcome State Fault Refusal :=
  .next (opSty (.abs w) s P)

end Sys2Proof.Machine
end

