-- ==== Sys2Proof/Machine/LogicShift.lean ====
section
/-! DEFINITION. Logic, bit test, shift and rotate instructions (44_logic_shift.md R170 to R179). -/

namespace Sys2Proof.Machine

/-- `AND` (R171): `r = A & M; A <- r; SetZN(r)`. -/
def opAnd (o : Operand) (s : State) (P : Params := Config.params) : State :=
  let r := s.a &&& operandValue o s P
  advance o ((s.setA r).setFlags (s.p.setZN r))

/-- `$29`, `AND` Immediate (R171). -/
def execAndImm (v : Byte) (s : State) (P : Params := Config.params) : Host.Outcome State Fault Refusal :=
  .next (opAnd (.imm v) s P)

/-- `$25`, `AND` ZeroPage (R171). -/
def execAndZp (z : Byte) (s : State) (P : Params := Config.params) : Host.Outcome State Fault Refusal :=
  .next (opAnd (.zp z) s P)

/-- `$35`, `AND` ZeroPageX (R171). -/
def execAndZpx (z : Byte) (s : State) (P : Params := Config.params) : Host.Outcome State Fault Refusal :=
  .next (opAnd (.zpx z) s P)

/-- `$2D`, `AND` Absolute (R171). -/
def execAndAbs (w : Word) (s : State) (P : Params := Config.params) : Host.Outcome State Fault Refusal :=
  .next (opAnd (.abs w) s P)

/-- `$3D`, `AND` AbsoluteX (R171). -/
def execAndAbx (w : Word) (s : State) (P : Params := Config.params) : Host.Outcome State Fault Refusal :=
  .next (opAnd (.abx w) s P)

/-- `$39`, `AND` AbsoluteY (R171). -/
def execAndAby (w : Word) (s : State) (P : Params := Config.params) : Host.Outcome State Fault Refusal :=
  .next (opAnd (.aby w) s P)

/-- `$21`, `AND` IndirectX (R171). -/
def execAndIzx (z : Byte) (s : State) (P : Params := Config.params) : Host.Outcome State Fault Refusal :=
  .next (opAnd (.izx z) s P)

/-- `$31`, `AND` IndirectY (R171). -/
def execAndIzy (z : Byte) (s : State) (P : Params := Config.params) : Host.Outcome State Fault Refusal :=
  .next (opAnd (.izy z) s P)

/-- `ORA` (R172): `r = A | M; A <- r; SetZN(r)`. -/
def opOra (o : Operand) (s : State) (P : Params := Config.params) : State :=
  let r := s.a ||| operandValue o s P
  advance o ((s.setA r).setFlags (s.p.setZN r))

/-- `$09`, `ORA` Immediate (R172). -/
def execOraImm (v : Byte) (s : State) (P : Params := Config.params) : Host.Outcome State Fault Refusal :=
  .next (opOra (.imm v) s P)

/-- `$05`, `ORA` ZeroPage (R172). -/
def execOraZp (z : Byte) (s : State) (P : Params := Config.params) : Host.Outcome State Fault Refusal :=
  .next (opOra (.zp z) s P)

/-- `$15`, `ORA` ZeroPageX (R172). -/
def execOraZpx (z : Byte) (s : State) (P : Params := Config.params) : Host.Outcome State Fault Refusal :=
  .next (opOra (.zpx z) s P)

/-- `$0D`, `ORA` Absolute (R172). -/
def execOraAbs (w : Word) (s : State) (P : Params := Config.params) : Host.Outcome State Fault Refusal :=
  .next (opOra (.abs w) s P)

/-- `$1D`, `ORA` AbsoluteX (R172). -/
def execOraAbx (w : Word) (s : State) (P : Params := Config.params) : Host.Outcome State Fault Refusal :=
  .next (opOra (.abx w) s P)

/-- `$19`, `ORA` AbsoluteY (R172). -/
def execOraAby (w : Word) (s : State) (P : Params := Config.params) : Host.Outcome State Fault Refusal :=
  .next (opOra (.aby w) s P)

/-- `$01`, `ORA` IndirectX (R172). -/
def execOraIzx (z : Byte) (s : State) (P : Params := Config.params) : Host.Outcome State Fault Refusal :=
  .next (opOra (.izx z) s P)

/-- `$11`, `ORA` IndirectY (R172). -/
def execOraIzy (z : Byte) (s : State) (P : Params := Config.params) : Host.Outcome State Fault Refusal :=
  .next (opOra (.izy z) s P)

/-- `EOR` (R173): `r = A ^ M; A <- r; SetZN(r)`. -/
def opEor (o : Operand) (s : State) (P : Params := Config.params) : State :=
  let r := s.a ^^^ operandValue o s P
  advance o ((s.setA r).setFlags (s.p.setZN r))

/-- `$49`, `EOR` Immediate (R173). -/
def execEorImm (v : Byte) (s : State) (P : Params := Config.params) : Host.Outcome State Fault Refusal :=
  .next (opEor (.imm v) s P)

/-- `$45`, `EOR` ZeroPage (R173). -/
def execEorZp (z : Byte) (s : State) (P : Params := Config.params) : Host.Outcome State Fault Refusal :=
  .next (opEor (.zp z) s P)

/-- `$55`, `EOR` ZeroPageX (R173). -/
def execEorZpx (z : Byte) (s : State) (P : Params := Config.params) : Host.Outcome State Fault Refusal :=
  .next (opEor (.zpx z) s P)

/-- `$4D`, `EOR` Absolute (R173). -/
def execEorAbs (w : Word) (s : State) (P : Params := Config.params) : Host.Outcome State Fault Refusal :=
  .next (opEor (.abs w) s P)

/-- `$5D`, `EOR` AbsoluteX (R173). -/
def execEorAbx (w : Word) (s : State) (P : Params := Config.params) : Host.Outcome State Fault Refusal :=
  .next (opEor (.abx w) s P)

/-- `$59`, `EOR` AbsoluteY (R173). -/
def execEorAby (w : Word) (s : State) (P : Params := Config.params) : Host.Outcome State Fault Refusal :=
  .next (opEor (.aby w) s P)

/-- `$41`, `EOR` IndirectX (R173). -/
def execEorIzx (z : Byte) (s : State) (P : Params := Config.params) : Host.Outcome State Fault Refusal :=
  .next (opEor (.izx z) s P)

/-- `$51`, `EOR` IndirectY (R173). -/
def execEorIzy (z : Byte) (s : State) (P : Params := Config.params) : Host.Outcome State Fault Refusal :=
  .next (opEor (.izy z) s P)

/-- `BIT` (R174): `Z <- ((A & M) = 0); N <- M[7]; V <- M[6]`; `A` and memory unchanged. -/
def opBit (o : Operand) (s : State) (P : Params := Config.params) : State :=
  advance o (s.setFlags (s.p.bitTest s.a (operandValue o s P)))

/-- `$24`, `BIT` ZeroPage (R174). -/
def execBitZp (z : Byte) (s : State) (P : Params := Config.params) : Host.Outcome State Fault Refusal :=
  .next (opBit (.zp z) s P)

/-- `$2C`, `BIT` Absolute (R174). -/
def execBitAbs (w : Word) (s : State) (P : Params := Config.params) : Host.Outcome State Fault Refusal :=
  .next (opBit (.abs w) s P)

/-- Shift or rotate by one position (R175): the result goes back where the operand came from, `C` takes the bit shifted out,
`SetZN` of the result. -/
def shift (f : Bool → Byte → Byte × Bool) (o : Operand) (s : State) (P : Params := Config.params) : State :=
  let r := f s.p.c (operandValue o s P)
  advance o ((writeBack o r.1 s P).setFlags (Flags.setZN { s.p with c := r.2 } r.1))

/-- `ASL` (R176): shift left, 0 enters at bit 0. -/
def opAsl (o : Operand) (s : State) (P : Params := Config.params) : State := shift aslByte o s P

/-- `$0A`, `ASL` Implied (R176). -/
def execAslAcc (s : State) (P : Params := Config.params) : Host.Outcome State Fault Refusal := .next (opAsl .implied s P)

/-- `$06`, `ASL` ZeroPage (R176). -/
def execAslZp (z : Byte) (s : State) (P : Params := Config.params) : Host.Outcome State Fault Refusal :=
  .next (opAsl (.zp z) s P)

/-- `$16`, `ASL` ZeroPageX (R176). -/
def execAslZpx (z : Byte) (s : State) (P : Params := Config.params) : Host.Outcome State Fault Refusal :=
  .next (opAsl (.zpx z) s P)

/-- `$0E`, `ASL` Absolute (R176). -/
def execAslAbs (w : Word) (s : State) (P : Params := Config.params) : Host.Outcome State Fault Refusal :=
  .next (opAsl (.abs w) s P)

/-- `$1E`, `ASL` AbsoluteX (R176). -/
def execAslAbx (w : Word) (s : State) (P : Params := Config.params) : Host.Outcome State Fault Refusal :=
  .next (opAsl (.abx w) s P)

/-- `LSR` (R177): shift right, 0 enters at bit 7. -/
def opLsr (o : Operand) (s : State) (P : Params := Config.params) : State := shift lsrByte o s P

/-- `$4A`, `LSR` Implied (R177). -/
def execLsrAcc (s : State) (P : Params := Config.params) : Host.Outcome State Fault Refusal := .next (opLsr .implied s P)

/-- `$46`, `LSR` ZeroPage (R177). -/
def execLsrZp (z : Byte) (s : State) (P : Params := Config.params) : Host.Outcome State Fault Refusal :=
  .next (opLsr (.zp z) s P)

/-- `$56`, `LSR` ZeroPageX (R177). -/
def execLsrZpx (z : Byte) (s : State) (P : Params := Config.params) : Host.Outcome State Fault Refusal :=
  .next (opLsr (.zpx z) s P)

/-- `$4E`, `LSR` Absolute (R177). -/
def execLsrAbs (w : Word) (s : State) (P : Params := Config.params) : Host.Outcome State Fault Refusal :=
  .next (opLsr (.abs w) s P)

/-- `$5E`, `LSR` AbsoluteX (R177). -/
def execLsrAbx (w : Word) (s : State) (P : Params := Config.params) : Host.Outcome State Fault Refusal :=
  .next (opLsr (.abx w) s P)

/-- `ROL` (R178): rotate left through `C`. -/
def opRol (o : Operand) (s : State) (P : Params := Config.params) : State := shift rolByte o s P

/-- `$2A`, `ROL` Implied (R178). -/
def execRolAcc (s : State) (P : Params := Config.params) : Host.Outcome State Fault Refusal := .next (opRol .implied s P)

/-- `$26`, `ROL` ZeroPage (R178). -/
def execRolZp (z : Byte) (s : State) (P : Params := Config.params) : Host.Outcome State Fault Refusal :=
  .next (opRol (.zp z) s P)

/-- `$36`, `ROL` ZeroPageX (R178). -/
def execRolZpx (z : Byte) (s : State) (P : Params := Config.params) : Host.Outcome State Fault Refusal :=
  .next (opRol (.zpx z) s P)

/-- `$2E`, `ROL` Absolute (R178). -/
def execRolAbs (w : Word) (s : State) (P : Params := Config.params) : Host.Outcome State Fault Refusal :=
  .next (opRol (.abs w) s P)

/-- `$3E`, `ROL` AbsoluteX (R178). -/
def execRolAbx (w : Word) (s : State) (P : Params := Config.params) : Host.Outcome State Fault Refusal :=
  .next (opRol (.abx w) s P)

/-- `ROR` (R179): rotate right through `C`. -/
def opRor (o : Operand) (s : State) (P : Params := Config.params) : State := shift rorByte o s P

/-- `$6A`, `ROR` Implied (R179). -/
def execRorAcc (s : State) (P : Params := Config.params) : Host.Outcome State Fault Refusal := .next (opRor .implied s P)

/-- `$66`, `ROR` ZeroPage (R179). -/
def execRorZp (z : Byte) (s : State) (P : Params := Config.params) : Host.Outcome State Fault Refusal :=
  .next (opRor (.zp z) s P)

/-- `$76`, `ROR` ZeroPageX (R179). -/
def execRorZpx (z : Byte) (s : State) (P : Params := Config.params) : Host.Outcome State Fault Refusal :=
  .next (opRor (.zpx z) s P)

/-- `$6E`, `ROR` Absolute (R179). -/
def execRorAbs (w : Word) (s : State) (P : Params := Config.params) : Host.Outcome State Fault Refusal :=
  .next (opRor (.abs w) s P)

/-- `$7E`, `ROR` AbsoluteX (R179). -/
def execRorAbx (w : Word) (s : State) (P : Params := Config.params) : Host.Outcome State Fault Refusal :=
  .next (opRor (.abx w) s P)

end Sys2Proof.Machine
end

