-- ==== Sys2Proof/Machine/Stack.lean ====
section
/-! DEFINITION. Stack instructions (48_stack.md R210 to R216). -/

namespace Sys2Proof.Machine

/-- `PHA` (R211): `Push(A); PC <- next`. -/
def opPha (s : State) (P : Params := Config.params) : State := advance .implied (s.push s.a P)

/-- `$48`, `PHA` Implied (R211). -/
def execPha (s : State) (P : Params := Config.params) : Host.Outcome State Fault Refusal := .next (opPha s P)

/-- `PHP` (R212): `Push(StatusByte(1)); PC <- next`. -/
def opPhp (s : State) (P : Params := Config.params) : State := advance .implied (s.push (statusByte true s.p) P)

/-- `$08`, `PHP` Implied (R212). -/
def execPhp (s : State) (P : Params := Config.params) : Host.Outcome State Fault Refusal := .next (opPhp s P)

/-- `PLA` (R213): `v = Pull(); A <- v; SetZN(v); PC <- next`. -/
def opPla (s : State) (P : Params := Config.params) : State :=
  advance .implied ((s.pop.setA (s.pulled P)).setFlags (s.p.setZN (s.pulled P)))

/-- `$68`, `PLA` Implied (R213). -/
def execPla (s : State) (P : Params := Config.params) : Host.Outcome State Fault Refusal := .next (opPla s P)

/-- `PLP` (R214): `LoadStatus(Pull()); PC <- next`. -/
def opPlp (s : State) (P : Params := Config.params) : State := advance .implied (s.pop.setFlags (loadStatus (s.pulled P)))

/-- `$28`, `PLP` Implied (R214). -/
def execPlp (s : State) (P : Params := Config.params) : Host.Outcome State Fault Refusal := .next (opPlp s P)

/-- `TXS` (R215): `SP <- X; PC <- next`; no flag changes. -/
def opTxs (s : State) : State := advance .implied (s.setSp s.x)

/-- `$9A`, `TXS` Implied (R215). -/
def execTxs (s : State) : Host.Outcome State Fault Refusal := .next (opTxs s)

/-- `TSX` (R216): `X <- SP; SetZN(SP); PC <- next`. -/
def opTsx (s : State) : State := advance .implied ((s.setX s.sp).setFlags (s.p.setZN s.sp))

/-- `$BA`, `TSX` Implied (R216). -/
def execTsx (s : State) : Host.Outcome State Fault Refusal := .next (opTsx s)

end Sys2Proof.Machine
end

