-- ==== Sys2Proof/Machine/Transfer.lean ====
section
/-! DEFINITION. Register transfer instructions (41_transfer.md R140 to R144). `TXS` and `TSX` are in Machine/Stack.lean. -/

namespace Sys2Proof.Machine

/-- `TAX` (R141): `X <- A; SetZN(A); PC <- next`. -/
def opTax (s : State) : State := advance .implied ((s.setX s.a).setFlags (s.p.setZN s.a))

/-- `$AA`, `TAX` Implied (R141). -/
def execTax (s : State) : Host.Outcome State Fault Refusal := .next (opTax s)

/-- `TAY` (R142): `Y <- A; SetZN(A); PC <- next`. -/
def opTay (s : State) : State := advance .implied ((s.setY s.a).setFlags (s.p.setZN s.a))

/-- `$A8`, `TAY` Implied (R142). -/
def execTay (s : State) : Host.Outcome State Fault Refusal := .next (opTay s)

/-- `TXA` (R143): `A <- X; SetZN(X); PC <- next`. -/
def opTxa (s : State) : State := advance .implied ((s.setA s.x).setFlags (s.p.setZN s.x))

/-- `$8A`, `TXA` Implied (R143). -/
def execTxa (s : State) : Host.Outcome State Fault Refusal := .next (opTxa s)

/-- `TYA` (R144): `A <- Y; SetZN(Y); PC <- next`. -/
def opTya (s : State) : State := advance .implied ((s.setA s.y).setFlags (s.p.setZN s.y))

/-- `$98`, `TYA` Implied (R144). -/
def execTya (s : State) : Host.Outcome State Fault Refusal := .next (opTya s)

end Sys2Proof.Machine
end

