-- ==== Sys2Proof/Machine/ExecWith.lean ====
section
/-! DEFINITION. The meanings for every value of the open parameters (00_scope.md R7). `exec` of Machine/Dispatch.lean is
`execWith Config.params`. -/

namespace Sys2Proof.Machine

/-- `exec` under parameters `P`. -/
def execWith (P : Params) (i : Instr) (s : State) : Host.Outcome State Fault Refusal :=
  match i with
  | .ldaImm v => execLdaImm v s P
  | .ldaZp z => execLdaZp z s P
  | .ldaZpx z => execLdaZpx z s P
  | .ldaAbs w => execLdaAbs w s P
  | .ldaAbx w => execLdaAbx w s P
  | .ldaAby w => execLdaAby w s P
  | .ldaIzx z => execLdaIzx z s P
  | .ldaIzy z => execLdaIzy z s P
  | .ldxImm v => execLdxImm v s P
  | .ldxZp z => execLdxZp z s P
  | .ldxZpy z => execLdxZpy z s P
  | .ldxAbs w => execLdxAbs w s P
  | .ldxAby w => execLdxAby w s P
  | .ldyImm v => execLdyImm v s P
  | .ldyZp z => execLdyZp z s P
  | .ldyZpx z => execLdyZpx z s P
  | .ldyAbs w => execLdyAbs w s P
  | .ldyAbx w => execLdyAbx w s P
  | .staZp z => execStaZp z s P
  | .staZpx z => execStaZpx z s P
  | .staAbs w => execStaAbs w s P
  | .staAbx w => execStaAbx w s P
  | .staAby w => execStaAby w s P
  | .staIzx z => execStaIzx z s P
  | .staIzy z => execStaIzy z s P
  | .stxZp z => execStxZp z s P
  | .stxZpy z => execStxZpy z s P
  | .stxAbs w => execStxAbs w s P
  | .styZp z => execStyZp z s P
  | .styZpx z => execStyZpx z s P
  | .styAbs w => execStyAbs w s P
  | .tax => execTax s
  | .tay => execTay s
  | .txa => execTxa s
  | .tya => execTya s
  | .incZp z => execIncZp z s P
  | .incZpx z => execIncZpx z s P
  | .incAbs w => execIncAbs w s P
  | .incAbx w => execIncAbx w s P
  | .decZp z => execDecZp z s P
  | .decZpx z => execDecZpx z s P
  | .decAbs w => execDecAbs w s P
  | .decAbx w => execDecAbx w s P
  | .inx => execInx s
  | .iny => execIny s
  | .dex => execDex s
  | .dey => execDey s
  | .adcImm v => execAdcImm v s P
  | .adcZp z => execAdcZp z s P
  | .adcZpx z => execAdcZpx z s P
  | .adcAbs w => execAdcAbs w s P
  | .adcAbx w => execAdcAbx w s P
  | .adcAby w => execAdcAby w s P
  | .adcIzx z => execAdcIzx z s P
  | .adcIzy z => execAdcIzy z s P
  | .sbcImm v => execSbcImm v s P
  | .sbcZp z => execSbcZp z s P
  | .sbcZpx z => execSbcZpx z s P
  | .sbcAbs w => execSbcAbs w s P
  | .sbcAbx w => execSbcAbx w s P
  | .sbcAby w => execSbcAby w s P
  | .sbcIzx z => execSbcIzx z s P
  | .sbcIzy z => execSbcIzy z s P
  | .andImm v => execAndImm v s P
  | .andZp z => execAndZp z s P
  | .andZpx z => execAndZpx z s P
  | .andAbs w => execAndAbs w s P
  | .andAbx w => execAndAbx w s P
  | .andAby w => execAndAby w s P
  | .andIzx z => execAndIzx z s P
  | .andIzy z => execAndIzy z s P
  | .oraImm v => execOraImm v s P
  | .oraZp z => execOraZp z s P
  | .oraZpx z => execOraZpx z s P
  | .oraAbs w => execOraAbs w s P
  | .oraAbx w => execOraAbx w s P
  | .oraAby w => execOraAby w s P
  | .oraIzx z => execOraIzx z s P
  | .oraIzy z => execOraIzy z s P
  | .eorImm v => execEorImm v s P
  | .eorZp z => execEorZp z s P
  | .eorZpx z => execEorZpx z s P
  | .eorAbs w => execEorAbs w s P
  | .eorAbx w => execEorAbx w s P
  | .eorAby w => execEorAby w s P
  | .eorIzx z => execEorIzx z s P
  | .eorIzy z => execEorIzy z s P
  | .bitZp z => execBitZp z s P
  | .bitAbs w => execBitAbs w s P
  | .aslAcc => execAslAcc s P
  | .aslZp z => execAslZp z s P
  | .aslZpx z => execAslZpx z s P
  | .aslAbs w => execAslAbs w s P
  | .aslAbx w => execAslAbx w s P
  | .lsrAcc => execLsrAcc s P
  | .lsrZp z => execLsrZp z s P
  | .lsrZpx z => execLsrZpx z s P
  | .lsrAbs w => execLsrAbs w s P
  | .lsrAbx w => execLsrAbx w s P
  | .rolAcc => execRolAcc s P
  | .rolZp z => execRolZp z s P
  | .rolZpx z => execRolZpx z s P
  | .rolAbs w => execRolAbs w s P
  | .rolAbx w => execRolAbx w s P
  | .rorAcc => execRorAcc s P
  | .rorZp z => execRorZp z s P
  | .rorZpx z => execRorZpx z s P
  | .rorAbs w => execRorAbs w s P
  | .rorAbx w => execRorAbx w s P
  | .cmpImm v => execCmpImm v s P
  | .cmpZp z => execCmpZp z s P
  | .cmpZpx z => execCmpZpx z s P
  | .cmpAbs w => execCmpAbs w s P
  | .cmpAbx w => execCmpAbx w s P
  | .cmpAby w => execCmpAby w s P
  | .cmpIzx z => execCmpIzx z s P
  | .cmpIzy z => execCmpIzy z s P
  | .cpxImm v => execCpxImm v s P
  | .cpxZp z => execCpxZp z s P
  | .cpxAbs w => execCpxAbs w s P
  | .cpyImm v => execCpyImm v s P
  | .cpyZp z => execCpyZp z s P
  | .cpyAbs w => execCpyAbs w s P
  | .bcc d => execBcc d s P
  | .bcs d => execBcs d s P
  | .beq d => execBeq d s P
  | .bne d => execBne d s P
  | .bmi d => execBmi d s P
  | .bpl d => execBpl d s P
  | .bvc d => execBvc d s P
  | .bvs d => execBvs d s P
  | .jmpAbs w => execJmpAbs w s P
  | .jmpInd w => execJmpInd w s P
  | .jsr w => execJsr w s P
  | .rts => execRts s P
  | .rti => execRti s P
  | .pha => execPha s P
  | .php => execPhp s P
  | .pla => execPla s P
  | .plp => execPlp s P
  | .txs => execTxs s
  | .tsx => execTsx s
  | .clc => execClc s
  | .sec => execSec s
  | .cli => execCli s
  | .sei => execSei s
  | .cld => execCld s
  | .sed => execSed s
  | .clv => execClv s
  | .nop => execNop s
  | .brk => execBrk s P
  | .undoc opc => execUndoc opc s

end Sys2Proof.Machine
end

