-- ==== Sys2Proof/Machine/Engine.lean ====
section
/-! DEFINITION. The execution engine (60_exceptions.md R240 to R273): fetch, cost, input sampling, the interrupt check, the
commit of an operation, tick mode and step mode, and the driver's calls. Machine/Step.lean calls it. `P` are the open
parameters and `run` is what runs an instruction, left out for the machine itself: `Config.params` and `exec`. -/

namespace Sys2Proof.Machine

/-- What runs an instruction. -/
abbrev Runner := Instr → State → Host.Outcome State Fault Refusal

/-- Operand byte `k` of the instruction at `PC`, read only when the descriptor's length reaches it (00_scope.md R13, R121). -/
def operandByte (s : State) (k : Nat) (P : Params := Config.params) : Byte :=
  if k < (descriptor (s.load s.pc P)).length then s.load (s.pc + BitVec.ofNat 16 k) P else 0

/-- Fetch and decode of the instruction at `PC` (R249). Total: every opcode byte has a descriptor (30_encoding.md R101). -/
def fetch (s : State) (P : Params := Config.params) : Instr :=
  Instr.ofBytes (s.load s.pc P) (operandByte s 1 P) (operandByte s 2 P)

/-- `Cost(d, cross, taken)` (30_encoding.md R117). -/
def cost (d : Descriptor) (cross taken : Bool) : Nat :=
  if d.mnemonic = .UNDOC then 1
  else if d.mode = .relative then d.cycles + (if taken then 1 + (if cross then 1 else 0) else 0)
  else d.cycles + (if d.pen && cross then 1 else 0)

/-- The cost of the instruction at `PC`, on the state as it is (R244, R249). -/
def instrCost (s : State) (P : Params := Config.params) : Nat :=
  let d := descriptor (s.load s.pc P)
  cost d (resolve (fetch s P).operand s P).2 (branchTaken d.mnemonic s.p)

/-- `OpCost()` (R244): the ticks the operation named by `op` occupies. -/
def opCost (s : State) (P : Params := Config.params) : Nat :=
  match s.op with
  | .instr => instrCost s P
  | .irqSeq | .nmiSeq | .resetWait => 7

/-- `Sample(irq, nmi)` (R243): `nmi_pending` latches a rising edge, `irq_latch` follows the level. -/
def sample (irq nmi : Bool) (s : State) : State :=
  { s with nmiPending := s.nmiPending || (nmi && !s.nmiPrev), nmiPrev := nmi, irqLatch := irq }

/-- `Check()` (R254): NMI first, then IRQ if `I` is clear. -/
def check (s : State) : State :=
  if s.nmiPending then { s with nmiPending := false, op := .nmiSeq }
  else if s.irqLatch && !s.p.i then { s with op := .irqSeq }
  else { s with op := .instr }

/-- A function of the next state applied to an outcome; a stop stays as it is. -/
def mapNext (f : State → State) : Host.Outcome State Fault Refusal → Host.Outcome State Fault Refusal
  | .next s => .next (f s)
  | .fault r => .fault r
  | .refused r => .refused r

/-- `ExecInstr()` (R249): the meaning of the instruction at `PC`. -/
def execInstr (s : State) (P : Params := Config.params) (run : Runner := exec) : Host.Outcome State Fault Refusal :=
  run (fetch s P) s

/-- The end of an interrupt sequence or of the reset wait: one instruction executes before the next check (R240). -/
def toInstr (s : State) : State := { s with op := .instr }

/-- `Commit()` (R246): the whole effect of the operation; the check follows an instruction only. -/
def commit (s : State) (P : Params := Config.params) (run : Runner := exec) : Host.Outcome State Fault Refusal :=
  match s.op with
  | .instr => mapNext check (execInstr s P run)
  | .irqSeq => .next (toInstr (interruptEntry irqVector false s.pc s P))
  | .nmiSeq => .next (toInstr (interruptEntry nmiVector false s.pc s P))
  | .resetWait => .next (toInstr s)

/-- The output ports at the start of a call: nothing presented (10_state.md R56, R271). -/
def clearOutputs (s : State) : State := { s with diag := none, cyclesOut := none }

/-- The first tick of an operation loads its cost (R244). -/
def loadCost (s : State) (P : Params := Config.params) : State :=
  if s.cyclesRemaining = 0 then { s with cyclesRemaining := opCost s P } else s

/-- One tick of the countdown (R245). -/
def countDown (s : State) : State := { s with cyclesRemaining := s.cyclesRemaining - 1 }

/-- `Tick(rst, irq, nmi)` (R241): reset above everything (R242), sampling, the halted state (R273), load, countdown, and the
commit on the tick that reaches 0. -/
def tick (rst irq nmi : Bool) (s : State) (P : Params := Config.params) (run : Runner := exec) :
    Host.Outcome State Fault Refusal :=
  if rst then .next (resetOp nmi (clearOutputs s) P)
  else
    let s1 := sample irq nmi (clearOutputs s)
    if s1.halted then .next s1
    else
      let s2 := countDown (loadCost s1 P)
      if s2.cyclesRemaining = 0 then commit s2 P run else .next s2

/-- The precondition of `Step` (R247): no tick of an operation has been spent. -/
def stepReady (s : State) : Bool :=
  s.cyclesRemaining == 0 || (s.op == .resetWait && s.cyclesRemaining == 7)

/-- What `Step` leaves beside the effect of the operation: the counter at 0 and the cycle count on the output (R247). -/
def endStep (n : Nat) (s : State) : State := { s with cyclesRemaining := 0, cyclesOut := some n }

/-- `Step(irq, nmi)` (R247): one whole operation and its cycle count; outside its precondition there is no meaning. -/
def stepCall (irq nmi : Bool) (s : State) (P : Params := Config.params) (run : Runner := exec) :
    Host.Outcome State Fault Refusal :=
  if stepReady s then
    let s1 := sample irq nmi (clearOutputs s)
    if s1.halted then .next { s1 with cyclesOut := some 0 }
    else mapNext (endStep (opCost s1 P)) (commit s1 P run)
  else .refused .stepMidOperation

/-- One call of the driver (R15, R19). -/
def perform (c : Call) (s : State) (P : Params := Config.params) (run : Runner := exec) :
    Host.Outcome State Fault Refusal :=
  match c with
  | .tick rst irq nmi => tick rst irq nmi s P run
  | .step irq nmi => stepCall irq nmi s P run
  | .write a v => .next (s.store a v P)

/-- The call the driver makes when none is queued: it goes on with both lines at the levels last sampled, by a step where
R247 allows one and by a tick otherwise. DESIGN CHOICE, unsafe: log 1. -/
def defaultCall (s : State) : Call :=
  if stepReady s then .step s.irqLatch s.nmiPrev else .tick false s.irqLatch s.nmiPrev

/-- The driver's next call. -/
def nextCall (s : State) : Call := s.calls.headD (defaultCall s)

/-- The state with the next call taken off the queue. -/
def takeCall (s : State) : State := { s with calls := s.calls.tail }

/-- The bytes stored from an address on, the first at the lowest, addresses modulo 65536 (20_memory.md R73). -/
def storeBytes (a : Word) : List Byte → State → State
  | [], s => s
  | b :: bs, s => storeBytes (a + 1) bs (s.store a b)

/-- An instruction's bytes placed at `PC`, the core at an operation boundary with an instruction next, and the driver's next
call a step with both lines as last sampled. -/
def placeInstr (bytes : List Byte) (s : State) : State :=
  { storeBytes s.pc bytes s with
    cyclesRemaining := 0, op := .instr, halted := false, calls := .step s.irqLatch s.nmiPrev :: s.calls }

end Sys2Proof.Machine
end

