-- ==== Sys2Proof/Machine/Step.lean ====
section
/-! DEFINITION. One step of the machine: the driver's next call (log 1). And the placing of one instruction where the next
step fetches it (log 9). -/

namespace Sys2Proof.Machine

/-- One call of the driver, taken off the queue and performed (00_scope.md R15, R19; 60_exceptions.md R241, R247). -/
def step (s : State) : Host.Outcome State Fault Refusal := perform (nextCall s) (takeCall s)

/-- The machine for every value of the open parameters (00_scope.md R7); `step` is `stepWith Config.params`. -/
def stepWith (P : Params) (s : State) : Host.Outcome State Fault Refusal :=
  perform (nextCall s) (takeCall s) P (execWith P)

/-- `s` with the instruction of an opcode-table row as the next one to run. -/
def State.withFetchWord (s : State) (nbits w : Nat) : State := placeInstr (tableBytes nbits w) s

end Sys2Proof.Machine
end

