-- ==== Sys2Proof/Machine/Assembly.lean ====
section
/-! DEFINITION. The assembler syntax (30_encoding.md R124): the text of a mnemonic, of an operand in each mode, and of a
disassembly line. The machine does not use it. Text is a list of characters. -/

namespace Sys2Proof.Machine

/-- An upper-case hexadecimal digit. -/
def hexDigit (n : Nat) : Char := if n < 10 then Char.ofNat (48 + n) else Char.ofNat (55 + n)

/-- A byte as two digits. -/
def hexByte (b : Byte) : List Char := [hexDigit (b.toNat / 16), hexDigit (b.toNat % 16)]

/-- A word as four digits. -/
def hexWord (w : Word) : List Char := hexByte (hi w) ++ hexByte (lo w)

/-- The text of a mnemonic: three upper-case letters, `???` for the sentinel (R119, R124). -/
def mnemonicText : Mnemonic → List Char
  | .LDA => ['L', 'D', 'A']
  | .LDX => ['L', 'D', 'X']
  | .LDY => ['L', 'D', 'Y']
  | .STA => ['S', 'T', 'A']
  | .STX => ['S', 'T', 'X']
  | .STY => ['S', 'T', 'Y']
  | .TAX => ['T', 'A', 'X']
  | .TAY => ['T', 'A', 'Y']
  | .TXA => ['T', 'X', 'A']
  | .TYA => ['T', 'Y', 'A']
  | .INC => ['I', 'N', 'C']
  | .DEC => ['D', 'E', 'C']
  | .INX => ['I', 'N', 'X']
  | .INY => ['I', 'N', 'Y']
  | .DEX => ['D', 'E', 'X']
  | .DEY => ['D', 'E', 'Y']
  | .ADC => ['A', 'D', 'C']
  | .SBC => ['S', 'B', 'C']
  | .AND => ['A', 'N', 'D']
  | .ORA => ['O', 'R', 'A']
  | .EOR => ['E', 'O', 'R']
  | .BIT => ['B', 'I', 'T']
  | .ASL => ['A', 'S', 'L']
  | .LSR => ['L', 'S', 'R']
  | .ROL => ['R', 'O', 'L']
  | .ROR => ['R', 'O', 'R']
  | .CMP => ['C', 'M', 'P']
  | .CPX => ['C', 'P', 'X']
  | .CPY => ['C', 'P', 'Y']
  | .BCC => ['B', 'C', 'C']
  | .BCS => ['B', 'C', 'S']
  | .BEQ => ['B', 'E', 'Q']
  | .BNE => ['B', 'N', 'E']
  | .BMI => ['B', 'M', 'I']
  | .BPL => ['B', 'P', 'L']
  | .BVC => ['B', 'V', 'C']
  | .BVS => ['B', 'V', 'S']
  | .JMP => ['J', 'M', 'P']
  | .JSR => ['J', 'S', 'R']
  | .RTS => ['R', 'T', 'S']
  | .RTI => ['R', 'T', 'I']
  | .PHA => ['P', 'H', 'A']
  | .PHP => ['P', 'H', 'P']
  | .PLA => ['P', 'L', 'A']
  | .PLP => ['P', 'L', 'P']
  | .TXS => ['T', 'X', 'S']
  | .TSX => ['T', 'S', 'X']
  | .CLC => ['C', 'L', 'C']
  | .SEC => ['S', 'E', 'C']
  | .CLI => ['C', 'L', 'I']
  | .SEI => ['S', 'E', 'I']
  | .CLD => ['C', 'L', 'D']
  | .SED => ['S', 'E', 'D']
  | .CLV => ['C', 'L', 'V']
  | .NOP => ['N', 'O', 'P']
  | .BRK => ['B', 'R', 'K']
  | .UNDOC => ['?', '?', '?']

/-- The text of an operand, per mode; a Relative operand is the resolved target of the instruction at `pc0` (R124). -/
def operandText (pc0 : Word) : Operand → List Char
  | .implied => []
  | .imm v => ['#', '$'] ++ hexByte v
  | .zp z => ['$'] ++ hexByte z
  | .zpx z => ['$'] ++ hexByte z ++ [',', 'X']
  | .zpy z => ['$'] ++ hexByte z ++ [',', 'Y']
  | .abs w => ['$'] ++ hexWord w
  | .abx w => ['$'] ++ hexWord w ++ [',', 'X']
  | .aby w => ['$'] ++ hexWord w ++ [',', 'Y']
  | .ind w => ['(', '$'] ++ hexWord w ++ [')']
  | .izx z => ['(', '$'] ++ hexByte z ++ [',', 'X', ')']
  | .izy z => ['(', '$'] ++ hexByte z ++ [')', ',', 'Y']
  | .rel d => ['$'] ++ hexWord (pc0 + 2 + sext16 d)

/-- The text of an instruction at `pc0`: mnemonic, and the operand after a space where there is one (R124). -/
def instrText (pc0 : Word) (i : Instr) : List Char :=
  let o := operandText pc0 i.operand
  mnemonicText i.mnemonic ++ (if o.isEmpty then [] else ' ' :: o)

/-- The raw bytes, separated by spaces. -/
def bytesText : List Byte → List Char
  | [] => []
  | [b] => hexByte b
  | b :: bs => hexByte b ++ [' '] ++ bytesText bs

/-- A disassembly line: address, bytes in a column of eight characters, instruction, three spaces between (R124). -/
def lineText (pc0 : Word) (i : Instr) : List Char :=
  let gap := [' ', ' ', ' ']
  let bytes := bytesText (encode i)
  hexWord pc0 ++ gap ++ bytes ++ List.replicate (8 - bytes.length) ' ' ++ gap ++ instrText pc0 i

end Sys2Proof.Machine
end

