-- ==== Sys2Proof/Machine/Bus.lean ====
section
/-! DEFINITION. The bus accesses of an operation, in their order (20_memory.md R89; 30_encoding.md R122; 10_state.md R56). No
access has a side effect with the empty device map (R84), so this list is a view beside the state, not a part of it; it lists
what the meanings read and write. -/

namespace Sys2Proof.Machine

/-- One access on the bus (R83: each moves one byte). -/
inductive BusAccess where
  | read (a : Word)
  | write (a : Word) (v : Byte)
  deriving DecidableEq, Repr

/-- How an instruction uses its resolved operand (R122). -/
inductive OperandUse where
  | read
  | write
  | modify
  | target
  | none
  deriving DecidableEq, Repr

/-- The classes of R122. The accumulator forms of the shifts have no address and so no access. -/
def operandUse : Mnemonic → OperandUse
  | .LDA | .LDX | .LDY | .ADC | .SBC | .AND | .ORA | .EOR | .BIT | .CMP | .CPX | .CPY => .read
  | .STA | .STX | .STY => .write
  | .INC | .DEC | .ASL | .LSR | .ROL | .ROR => .modify
  | .JMP | .JSR | .BCC | .BCS | .BEQ | .BNE | .BMI | .BPL | .BVC | .BVS => .target
  | .TAX | .TAY | .TXA | .TYA | .INX | .INY | .DEX | .DEY | .RTS | .RTI | .PHA | .PHP | .PLA | .PLP | .TXS | .TSX
  | .CLC | .SEC | .CLI | .SEI | .CLD | .SED | .CLV | .NOP | .BRK | .UNDOC => .none

/-- The opcode and operand bytes, as far as the length reaches (R89 (1), (2)). -/
def fetchAccesses (s : State) (P : Params := Config.params) : List BusAccess :=
  (List.range (descriptor (s.load s.pc P)).length).map (fun k => .read (s.pc + BitVec.ofNat 16 k))

/-- The pointer bytes, low then high (R89 (3)). -/
def pointerAccesses (o : Operand) (s : State) : List BusAccess :=
  match o with
  | .ind w => [.read w, .read (wordOf (hi w) (lo w + 1))]
  | .izx z => [.read (zext16 (z + s.x)), .read (zext16 (z + s.x + 1))]
  | .izy z => [.read (zext16 z), .read (zext16 (z + 1))]
  | .implied | .imm _ | .zp _ | .zpx _ | .zpy _ | .abs _ | .abx _ | .aby _ | .rel _ => []

/-- The byte a writing instruction stores at `ea`, from the state and the byte it read (R134 to R136, R151, R152, R176 to
R179). -/
def storedByte (m : Mnemonic) (v : Byte) (s : State) : Byte :=
  match m with
  | .STX => s.x
  | .STY => s.y
  | .INC => v + 1
  | .DEC => v - 1
  | .ASL => (aslByte s.p.c v).1
  | .LSR => (lsrByte s.p.c v).1
  | .ROL => (rolByte s.p.c v).1
  | .ROR => (rorByte s.p.c v).1
  | _ => s.a

/-- The data read and the data write of the operand (R89 (4), (5)). -/
def dataAccesses (m : Mnemonic) (o : Operand) (s : State) (P : Params := Config.params) : List BusAccess :=
  match effAddr o s P, operandUse m with
  | some ea, .read => [.read ea]
  | some ea, .write => [.write ea (storedByte m (s.load ea P) s)]
  | some ea, .modify => [.read ea, .write ea (storedByte m (s.load ea P) s)]
  | some _, .target | some _, .none | none, _ => []

/-- Pushes, in order, from the slot `sp` designates (R80). -/
def pushAccesses : Byte → List Byte → List BusAccess
  | _, [] => []
  | sp, v :: vs => .write (stackAddr sp) v :: pushAccesses (sp - 1) vs

/-- `n` pulls from above the slot `sp` designates (R81). -/
def pullAccesses : Byte → Nat → List BusAccess
  | _, 0 => []
  | sp, n + 1 => .read (stackAddr (sp + 1)) :: pullAccesses (sp + 1) n

/-- The accesses of `InterruptEntry`: three pushes, then the vector, low byte then high (R89 (6), R256). -/
def entryAccesses (vector : Word) (b : Bool) (ret : Word) (s : State) : List BusAccess :=
  pushAccesses s.sp [hi ret, lo ret, statusByte b s.p] ++ [.read vector, .read (vector + 1)]

/-- The stack and vector accesses of an instruction (R89 (5), (6)). -/
def stackAccesses (m : Mnemonic) (s : State) : List BusAccess :=
  match m with
  | .PHA => pushAccesses s.sp [s.a]
  | .PHP => pushAccesses s.sp [statusByte true s.p]
  | .JSR => pushAccesses s.sp [hi (s.pc + 2), lo (s.pc + 2)]
  | .BRK => entryAccesses irqVector true (s.pc + 2) s
  | .PLA | .PLP => pullAccesses s.sp 1
  | .RTS => pullAccesses s.sp 2
  | .RTI => pullAccesses s.sp 3
  | _ => []

/-- The accesses of an instruction after its own bytes are read. -/
def instrAccesses (i : Instr) (s : State) (P : Params := Config.params) : List BusAccess :=
  pointerAccesses i.operand s ++ dataAccesses i.mnemonic i.operand s P ++ stackAccesses i.mnemonic s

/-- The accesses of the commit tick of the operation `op` names (R89, R246). -/
def commitAccesses (s : State) (P : Params := Config.params) : List BusAccess :=
  match s.op with
  | .instr => fetchAccesses s P ++ instrAccesses (fetch s P) s P
  | .irqSeq => entryAccesses irqVector false s.pc s
  | .nmiSeq => entryAccesses nmiVector false s.pc s
  | .resetWait => []

/-- The reads of the first tick of an operation, made to compute its cost (R89, R244). -/
def firstTickAccesses (s : State) (P : Params := Config.params) : List BusAccess :=
  match s.op with
  | .instr => fetchAccesses s P ++ pointerAccesses (fetch s P).operand s
  | .irqSeq | .nmiSeq | .resetWait => []

/-- The accesses of one tick: the reset vector on a reset tick (R280), none while halted (R273) or counting down (R245). -/
def tickAccesses (rst : Bool) (s : State) (P : Params := Config.params) : List BusAccess :=
  if rst then [.read resetVector, .read (resetVector + 1)]
  else if s.halted then []
  else
    (if s.cyclesRemaining = 0 then firstTickAccesses s P else []) ++
      (if (countDown (loadCost s P)).cyclesRemaining = 0 then commitAccesses s P else [])

/-- Memory after a list of accesses: the writes, in order. -/
def applyAccesses (l : List BusAccess) (s : State) (P : Params := Config.params) : State :=
  match l with
  | [] => s
  | .read _ :: l => applyAccesses l s P
  | .write a v :: l => applyAccesses l (s.store a v P) P

end Sys2Proof.Machine
end

