-- ==== Sys2Proof/Safety.lean ====
section
/-! DEFINITION. The terms the claims use: the invariant of the machine, what an interrupt entry leaves, integer readings of
flags and costs, and runs of ticks. Each is written from the spec's words, not from the meanings. -/

namespace Sys2Proof.Machine

/-- The bytes an instruction occupies, as an address increment (30_encoding.md R100). -/
def size (i : Instr) : Word := BitVec.ofNat 16 (encode i).length

/-- `Z` and `N` of a result, read as a number (10_state.md R45); every other flag kept. -/
def znOf (p : Flags) (r : Byte) : Flags := { p with z := decide (r.toNat = 0), n := decide (128 ≤ r.toNat) }

/-- What every instruction leaves alone: the execution state (R50 to R55), the driver's queue and the cycle output. -/
structure SameEngine (s t : State) : Prop where
  cyclesRemaining : t.cyclesRemaining = s.cyclesRemaining
  op : t.op = s.op
  irqLatch : t.irqLatch = s.irqLatch
  nmiPending : t.nmiPending = s.nmiPending
  nmiPrev : t.nmiPrev = s.nmiPrev
  halted : t.halted = s.halted
  calls : t.calls = s.calls
  cyclesOut : t.cyclesOut = s.cyclesOut

/-- Memory after is memory before with one byte stored. -/
structure StoredAt (ea : Word) (v : Byte) (s t : State) : Prop where
  stored : t.load ea = v
  elsewhere : ∀ b, b ≠ ea → t.load b = s.load b

/-- The bits of a pushed status byte (R37, R46). -/
structure StatusBits (v : Byte) (b : Bool) (p : Flags) : Prop where
  bit7 : v.getLsbD 7 = p.n
  bit6 : v.getLsbD 6 = p.v
  bit5 : v.getLsbD 5 = true
  bit4 : v.getLsbD 4 = b
  bit3 : v.getLsbD 3 = p.d
  bit2 : v.getLsbD 2 = p.i
  bit1 : v.getLsbD 1 = p.z
  bit0 : v.getLsbD 0 = p.c

/-- What an interrupt entry leaves of stack, memory, `PC` and registers (60_exceptions.md R256): three bytes pushed, the
return address high byte first, then the status with bit 4 = `b` and `I` as it was; every other byte of memory and `A`, `X`,
`Y` as before; `PC` from the vector. The flags are said beside it. -/
structure Entered (vector : Word) (b : Bool) (ret : Word) (s t : State) : Prop where
  returnHigh : t.load (stackAddr s.sp) = hi ret
  returnLow : t.load (stackAddr (s.sp - 1)) = lo ret
  status : StatusBits (t.load (stackAddr (s.sp - 2))) b s.p
  elsewhere : ∀ a, a ≠ stackAddr s.sp → a ≠ stackAddr (s.sp - 1) → a ≠ stackAddr (s.sp - 2) → t.load a = s.load a
  sp : t.sp = s.sp - 3
  pc : t.pc = wordOf (s.load (vector + 1)) (s.load vector)
  a : t.a = s.a
  x : t.x = s.x
  y : t.y = s.y

/-- The state a tick or a step samples its inputs into (R243), its outputs cleared. -/
def sampled (irq nmi : Bool) (s : State) : State :=
  { s with
    nmiPending := s.nmiPending || (nmi && !s.nmiPrev), nmiPrev := nmi, irqLatch := irq, diag := none, cyclesOut := none }

/-- The invariant of the machine: memory in canonical form; `B = 0` between operations (R38, R291); the counter at most 7
and 7 only in the reset wait (R50); an IRQ sequence is under way only with `I` clear (R257). -/
structure Inv (s : State) : Prop where
  mem : Memory.wf s.mem
  breakClear : s.p.b = false
  counter : s.cyclesRemaining ≤ 7
  seven : s.cyclesRemaining = 7 → s.op = .resetWait
  masked : s.op = .irqSeq → s.p.i = false

/-- Ticks without reset, one per pair of input levels (irq, nmi), stopping at the first stop. -/
def ticks : List (Bool × Bool) → State → Host.Outcome State Fault Refusal
  | [], s => .next s
  | (irq, nmi) :: l, s =>
    match tick false irq nmi s with
    | .next t => ticks l t
    | .fault r => .fault r
    | .refused r => .refused r

/-- A valid packed BCD byte: both digits 0 to 9 (43_arithmetic.md R162). -/
abbrev BcdValid (v : Byte) : Prop := v.toNat % 16 ≤ 9 ∧ v.toNat / 16 ≤ 9

/-- The number a packed BCD byte stands for. -/
def bcd (v : Byte) : Nat := v.toNat / 16 * 10 + v.toNat % 16

/-- The cost of an instruction by class and mode, from the table of 70_reset_and_hazards.md R300 and the penalties of R301;
modes a class does not have are absent from the table and read 0. -/
def classCost (m : Mnemonic) (mode : Mode) (cross taken : Bool) : Nat :=
  match operandUse m, mode with
  | .read, .immediate => 2
  | .read, .zeroPage => 3
  | .read, .zeroPageX | .read, .zeroPageY | .read, .absolute => 4
  | .read, .absoluteX | .read, .absoluteY => 4 + cross.toNat
  | .read, .indirectX => 6
  | .read, .indirectY => 5 + cross.toNat
  | .write, .zeroPage => 3
  | .write, .zeroPageX | .write, .zeroPageY | .write, .absolute => 4
  | .write, .absoluteX | .write, .absoluteY => 5
  | .write, .indirectX | .write, .indirectY => 6
  | .modify, .implied => 2
  | .modify, .zeroPage => 5
  | .modify, .zeroPageX | .modify, .absolute => 6
  | .modify, .absoluteX => 7
  | .target, .relative => if taken then 3 + cross.toNat else 2
  | .target, .indirect => 5
  | .target, .absolute => if m = .JSR then 6 else 3
  | .none, .implied =>
    if m = .UNDOC then 1
    else if m = .PHA ∨ m = .PHP then 3
    else if m = .PLA ∨ m = .PLP then 4
    else if m = .RTS ∨ m = .RTI then 6
    else if m = .BRK then 7
    else 2
  | _, _ => 0

/-- The flag an instruction tests as a branch, and the value at which it is taken (46_branch.md R190). -/
def branchCondition (m : Mnemonic) (p : Flags) : Option Bool :=
  match m with
  | .BPL => some (p.n == false)
  | .BMI => some (p.n == true)
  | .BVC => some (p.v == false)
  | .BVS => some (p.v == true)
  | .BCC => some (p.c == false)
  | .BCS => some (p.c == true)
  | .BNE => some (p.z == false)
  | .BEQ => some (p.z == true)
  | _ => none

end Sys2Proof.Machine
end

