-- ==== Sys2Proof/Certificates/Slice0/Obligations.lean ====
section
/-! DEFINITION. The statements about the model, one `def Obligations.<Name> : Prop` each, listed in OBLIGATIONS.json. Rules are
those of spec/; D, G, N, U marks are the spec's own lists of decisions, general knowledge, gaps and open behaviour. -/

open Sys2Proof Sys2Proof.Machine

/-- Words written out from the spec decode to the instructions they stand for. The source's words (95_test_vectors.md 1.1, 1.8) and four more of the opcode map, which the spec marks as general knowledge (G1). -/
def Obligations.DecodeReadsTheSpecsWords : Prop :=
  decode [0xA2, 0xFF, 0x78] = .ok (.ldxImm 0xFF, [0x78]) ∧
  decode [0x78] = .ok (.sei, []) ∧
  decode [0x9A] = .ok (.txs, []) ∧
  decode [0xD8] = .ok (.cld, []) ∧
  decode [0x20, 0x02, 0xFD] = .ok (.jsr 0xFD02, []) ∧
  decode [0x6C, 0xFF, 0x12] = .ok (.jmpInd 0x12FF, []) ∧
  decode [0xBD, 0xFF, 0x12] = .ok (.ldaAbx 0x12FF, []) ∧
  decode [0xD0, 0x03] = .ok (.bne 0x03, []) ∧
  decode [0x0A] = .ok (.aslAcc, []) ∧
  decode [0x00] = .ok (.brk, []) ∧
  decode [0x02, 0xFF] = .ok (.undoc 0x02, [0xFF]) ∧
  decode [0xAD, 0x00] = .error (.truncated 0xAD)

/-- Decoding the encoding of any well-formed instruction gives it back, with any operand and whatever follows. No bit of an encoding is dropped, for all 151 rows and the 105 sentinel bytes. -/
def Obligations.DecodeEncodeRoundTrip : Prop :=
  ∀ (i : Instr) (rest : List Byte), i.wf = true → decode (encode i ++ rest) = .ok (i, rest)

/-- Whatever decodes is well-formed and encodes back to the bytes it was read from. The other direction of the round trip: each word has one meaning. -/
def Obligations.DecodedBytesAreReencoded : Prop :=
  ∀ (bytes rest : List Byte) (i : Instr), decode bytes = .ok (i, rest) → i.wf = true ∧ encode i ++ rest = bytes

/-- Decoding is total: every opcode byte with two more bytes decodes, to the sentinel exactly for the 105 listed bytes. R101: Decode is a total function on 0..255; the sentinel of R119 for the other 105 (which bytes those are is general knowledge, G1). -/
def Obligations.EveryOpcodeByteDecodes : Prop :=
  undocumentedBytes.length = 105 ∧ undocumentedBytes.Nodup ∧
  ∀ (opc b1 b2 : Byte) (rest : List Byte), ∃ i left, decode (opc :: b1 :: b2 :: rest) = .ok (i, left) ∧
    i.opcode = opc ∧ (i.mnemonic = .UNDOC ↔ opc ∈ undocumentedBytes) ∧
    1 ≤ (encode i).length ∧ (encode i).length ≤ 3

/-- The assembler text of the source's example lines, and of an operand in each of the twelve modes. R124. The BNE and JMP lines are the spec's derivation (90_conflicts.md C2, log 14), the operand forms the source does not show its general knowledge (D39), ASL without an operand its decision D18. -/
def Obligations.DisassemblyLinesOfTheSource : Prop :=
  lineText 0xFCE2 (.ldxImm 0xFF) = "FCE2   A2 FF      LDX #$FF".toList ∧
  lineText 0xFCE4 .sei = "FCE4   78         SEI".toList ∧
  lineText 0xFCE5 .txs = "FCE5   9A         TXS".toList ∧
  lineText 0xFCE6 .cld = "FCE6   D8         CLD".toList ∧
  lineText 0xFCE7 (.jsr 0xFD02) = "FCE7   20 02 FD   JSR $FD02".toList ∧
  lineText 0xFCEA (.bne 0x03) = "FCEA   D0 03      BNE $FCEF".toList ∧
  lineText 0xFCEC (.jmpInd 0x8000) = "FCEC   6C 00 80   JMP ($8000)".toList ∧
  instrText 0x0200 .aslAcc = "ASL".toList ∧
  instrText 0x0200 (.ldxImm 0xFF) = "LDX #$FF".toList ∧
  instrText 0x0200 (.ldaZp 0x10) = "LDA $10".toList ∧
  instrText 0x0200 (.ldaZpx 0x10) = "LDA $10,X".toList ∧
  instrText 0x0200 (.ldxZpy 0x10) = "LDX $10,Y".toList ∧
  instrText 0x0200 (.jsr 0xFD02) = "JSR $FD02".toList ∧
  instrText 0x0200 (.ldaAbx 0x12FF) = "LDA $12FF,X".toList ∧
  instrText 0x0200 (.ldaAby 0x1200) = "LDA $1200,Y".toList ∧
  instrText 0x0200 (.jmpInd 0x12FF) = "JMP ($12FF)".toList ∧
  instrText 0x0200 (.ldaIzx 0x10) = "LDA ($10,X)".toList ∧
  instrText 0x0200 (.ldaIzy 0x10) = "LDA ($10),Y".toList ∧
  instrText 0xFCEA (.bne 0x03) = "BNE $FCEF".toList ∧
  instrText 0x0200 (.undoc 0x02) = "???".toList

/-- Immediate, ZeroPage, ZeroPageX, ZeroPageY and Absolute: the operand bytes at PC, the effective address, the operand value. R106 to R110, the sums in the natural numbers; the operand value is R13. Implied (R105) is in InstructionsDependOnlyOnTheBytesTheyRead. -/
def Obligations.DirectModesResolve : Prop :=
  ∀ s : State,
    let mode := (descriptor (s.load s.pc)).mode
    let o := (fetch s).operand
    let b1 := s.load (s.pc + 1)
    let b2 := s.load (s.pc + 2)
    (mode = .immediate → o = .imm b1) ∧ (mode = .zeroPage → o = .zp b1) ∧ (mode = .zeroPageX → o = .zpx b1) ∧
    (mode = .zeroPageY → o = .zpy b1) ∧
    (mode = .absolute → ∃ w : Word, w.toNat = b1.toNat + 256 * b2.toNat ∧ o = .abs w) ∧
    (∀ (v z : Byte) (w : Word),
      resolve (.imm v) s = (.imm v, false) ∧
      resolve (.zp z) s = (.addr (BitVec.ofNat 16 z.toNat), false) ∧
      resolve (.zpx z) s = (.addr (BitVec.ofNat 16 ((z.toNat + s.x.toNat) % 256)), false) ∧
      resolve (.zpy z) s = (.addr (BitVec.ofNat 16 ((z.toNat + s.y.toNat) % 256)), false) ∧
      resolve (.abs w) s = (.addr w, false) ∧
      operandValue (.imm v) s = v ∧ effAddr (.imm v) s = none) ∧
    (∀ (o : Operand) (ea : Word), (resolve o s).1 = .addr ea ↔ effAddr o s = some ea) ∧
    (∀ (o : Operand) (ea : Word), effAddr o s = some ea → operandValue o s = s.load ea) ∧
    (∀ (i : Instr) (v : Byte) (mem : Memory), i.operand = .imm v → ∃ t, exec i s = .next t ∧ t.mem = s.mem ∧
      exec i { s with mem := mem } = .next { t with mem := mem })

/-- AbsoluteX, AbsoluteY, Indirect, IndirectX, IndirectY, Relative resolve with their wraps and page-cross bits. R111 to R116. That a zero-page pointer's high byte stays in the zero page is the spec's decision D21, that a branch's page is compared with that of pc0 + 2 its decision D33. -/
def Obligations.IndexedAndPointerModesResolve : Prop :=
  ∀ (s : State) (z d : Byte) (w : Word),
    resolve (.abx w) s = (.addr (BitVec.ofNat 16 (w.toNat + s.x.toNat)), decide (256 ≤ w.toNat % 256 + s.x.toNat)) ∧
    resolve (.aby w) s = (.addr (BitVec.ofNat 16 (w.toNat + s.y.toNat)), decide (256 ≤ w.toNat % 256 + s.y.toNat)) ∧
    resolve (.ind w) s =
      (.addr (BitVec.ofNat 16 ((s.load w).toNat +
        256 * (s.load (BitVec.ofNat 16 (w.toNat / 256 * 256 + (w.toNat + 1) % 256))).toNat)), false) ∧
    (let zx := (z.toNat + s.x.toNat) % 256
     resolve (.izx z) s =
      (.addr (BitVec.ofNat 16 ((s.load (BitVec.ofNat 16 zx)).toNat +
        256 * (s.load (BitVec.ofNat 16 ((zx + 1) % 256))).toNat)), false)) ∧
    (let base := (s.load (BitVec.ofNat 16 z.toNat)).toNat +
        256 * (s.load (BitVec.ofNat 16 ((z.toNat + 1) % 256))).toNat
     resolve (.izy z) s = (.addr (BitVec.ofNat 16 (base + s.y.toNat)), decide (256 ≤ base % 256 + s.y.toNat))) ∧
    (∃ target : Word, (target.toNat : Int) = ((s.pc.toNat : Int) + 2 + d.toInt) % 65536 ∧
      resolve (.rel d) s = (.addr target, decide (target.toNat / 256 ≠ (s.pc.toNat + 2) % 65536 / 256))) ∧
    (∀ (o : Operand) (ea : Word), effAddr o s = some ea → (resolve o s).1 = .addr ea ∧ operandValue o s = s.load ea)

/-- LDA, LDX, LDY in every mode: the register takes the operand, Z and N follow it, nothing else changes but PC. R130 to R133. Result, frame and completion in one equation. -/
def Obligations.LoadsSetTheRegisterAndZN : Prop :=
  ∀ (i : Instr) (s : State),
    let m := operandValue i.operand s
    (i.mnemonic = .LDA → exec i s = .next { s with a := m, p := znOf s.p m, pc := s.pc + size i }) ∧
    (i.mnemonic = .LDX → exec i s = .next { s with x := m, p := znOf s.p m, pc := s.pc + size i }) ∧
    (i.mnemonic = .LDY → exec i s = .next { s with y := m, p := znOf s.p m, pc := s.pc + size i })

/-- STA, STX, STY in every mode: the register at the effective address, every other byte, register and flag unchanged. R130, R134 to R136. -/
def Obligations.StoresWriteOneByteAndNothingElse : Prop :=
  ∀ (i : Instr) (s : State),
    let writes : Byte → Prop := fun r => ∃ ea t, effAddr i.operand s = some ea ∧ exec i s = .next t ∧
      t = { s with mem := t.mem, pc := s.pc + size i } ∧ StoredAt ea r s t
    (i.mnemonic = .STA → writes s.a) ∧ (i.mnemonic = .STX → writes s.x) ∧ (i.mnemonic = .STY → writes s.y)

/-- TAX, TAY, TXA, TYA, TSX copy a register and set Z and N; TXS copies and sets no flag. R140 to R144, R215, R216; the flag rule is general knowledge in the spec (G5). -/
def Obligations.TransfersCopyAndSetZN : Prop :=
  ∀ s : State,
    exec .tax s = .next { s with x := s.a, p := znOf s.p s.a, pc := s.pc + 1 } ∧
    exec .tay s = .next { s with y := s.a, p := znOf s.p s.a, pc := s.pc + 1 } ∧
    exec .txa s = .next { s with a := s.x, p := znOf s.p s.x, pc := s.pc + 1 } ∧
    exec .tya s = .next { s with a := s.y, p := znOf s.p s.y, pc := s.pc + 1 } ∧
    exec .tsx s = .next { s with x := s.sp, p := znOf s.p s.sp, pc := s.pc + 1 } ∧
    exec .txs s = .next { s with sp := s.x, pc := s.pc + 1 }

/-- INX, INY, DEX, DEY: one more or less modulo 256, Z and N of the result, carry and everything else kept. R150, R153 to R156 (general knowledge in the spec, G6). -/
def Obligations.RegisterIncrementsAndDecrementsWrap : Prop :=
  ∀ s : State,
    (∃ r : Byte, r.toNat = (s.x.toNat + 1) % 256 ∧
      exec .inx s = .next { s with x := r, p := znOf s.p r, pc := s.pc + 1 }) ∧
    (∃ r : Byte, r.toNat = (s.y.toNat + 1) % 256 ∧
      exec .iny s = .next { s with y := r, p := znOf s.p r, pc := s.pc + 1 }) ∧
    (∃ r : Byte, r.toNat = (s.x.toNat + 255) % 256 ∧
      exec .dex s = .next { s with x := r, p := znOf s.p r, pc := s.pc + 1 }) ∧
    (∃ r : Byte, r.toNat = (s.y.toNat + 255) % 256 ∧
      exec .dey s = .next { s with y := r, p := znOf s.p r, pc := s.pc + 1 })

/-- INC and DEC in every mode: the byte at the effective address one more or less modulo 256, no register changes. R150 to R152 (general knowledge in the spec, G6). -/
def Obligations.MemoryIncrementsAndDecrementsWrap : Prop :=
  ∀ (i : Instr) (s : State),
    let changes : Nat → Prop := fun k => ∃ ea r t, effAddr i.operand s = some ea ∧
      BitVec.toNat r = ((s.load ea).toNat + k) % 256 ∧ exec i s = .next t ∧
      t = { s with mem := t.mem, p := znOf s.p r, pc := s.pc + size i } ∧ StoredAt ea r s t
    (i.mnemonic = .INC → changes 1) ∧ (i.mnemonic = .DEC → changes 255)

/-- ADC with D clear, every mode: sum, carry, overflow, zero and negative as integers; nothing else changes. R161; V by its signed meaning, not by the bit formula. -/
def Obligations.BinaryAdcAddsWithCarry : Prop :=
  ∀ (i : Instr) (s : State), i.mnemonic = .ADC → s.p.d = false →
    let m := operandValue i.operand s
    let sum := s.a.toNat + m.toNat + s.p.c.toNat
    let signed : Int := s.a.toInt + m.toInt + s.p.c.toNat
    ∃ r : Byte, r.toNat = sum % 256 ∧
      exec i s = .next { s with
        a := r
        p := { znOf s.p r with c := decide (255 < sum), v := decide (signed < -128 ∨ 127 < signed) }
        pc := s.pc + size i }

/-- SBC with D clear, every mode: difference, carry as no-borrow, overflow, zero and negative as integers. R164; that carry-in 1 means no borrow is the spec's decision D41. -/
def Obligations.BinarySbcSubtractsWithBorrow : Prop :=
  ∀ (i : Instr) (s : State), i.mnemonic = .SBC → s.p.d = false →
    let m := operandValue i.operand s
    let borrow := 1 - s.p.c.toNat
    let signed : Int := s.a.toInt - m.toInt - borrow
    ∃ r : Byte, (r.toNat : Int) = ((s.a.toNat : Int) - m.toNat - borrow) % 256 ∧
      exec i s = .next { s with
        a := r
        p := { znOf s.p r with
          c := decide (m.toNat + borrow ≤ s.a.toNat), v := decide (signed < -128 ∨ 127 < signed) }
        pc := s.pc + size i }

/-- ADC with D set: on valid packed BCD the BCD sum and carry; always Z of the binary sum; frame on every operand (log 8). The last clause is R161 with DecimalAdc open (R7). The BCD clause is what R162 asks of any admissible DecimalAdc; the rest holds for the default (D16, log 8). -/
def Obligations.DecimalAdcIsBcdAddition : Prop :=
  ∀ (i : Instr) (s : State), i.mnemonic = .ADC → s.p.d = true →
    let m := operandValue i.operand s
    ∃ (r : Byte) (n v z c : Bool),
      exec i s = .next { s with a := r, p := { s.p with n := n, v := v, z := z, c := c }, pc := s.pc + size i } ∧
      z = decide ((s.a.toNat + m.toNat + s.p.c.toNat) % 256 = 0) ∧
      (BcdValid s.a → BcdValid m →
        BcdValid r ∧ bcd r = (bcd s.a + bcd m + s.p.c.toNat) % 100 ∧
        c = decide (100 ≤ bcd s.a + bcd m + s.p.c.toNat)) ∧
      ∀ P : Params,
        let r := P.decimalAdc s.a (operandValue i.operand s P) s.p.c
        execWith P i s = .next { s with
          a := r.value, p := { s.p with n := r.n, v := r.v, z := r.z, c := r.c }, pc := s.pc + size i }

/-- SBC with D set: on valid packed BCD the BCD difference and no-borrow; flags as in binary; frame (log 8). The last clause is R164 with DecimalSbc open (R7). The BCD clause is what R163 asks of any admissible DecimalSbc; the rest holds for the default (D16, log 8). -/
def Obligations.DecimalSbcIsBcdSubtraction : Prop :=
  ∀ (i : Instr) (s : State), i.mnemonic = .SBC → s.p.d = true →
    let m := operandValue i.operand s
    let diff : Int := (bcd s.a : Int) - bcd m - (1 - s.p.c.toNat : Nat)
    ∃ (r rb : Byte) (n v z c : Bool),
      exec i s = .next { s with a := r, p := { s.p with n := n, v := v, z := z, c := c }, pc := s.pc + size i } ∧
      exec i { s with p := { s.p with d := false } } = .next { s with
        a := rb, p := { s.p with n := n, v := v, z := z, c := c, d := false }, pc := s.pc + size i } ∧
      (BcdValid s.a → BcdValid m →
        BcdValid r ∧ (bcd r : Int) = diff % 100 ∧ c = decide (0 ≤ diff)) ∧
      ∀ P : Params,
        let r := P.decimalSbc s.a (operandValue i.operand s P) s.p.c
        execWith P i s = .next { s with
          a := r.value, p := { s.p with n := r.n, v := r.v, z := r.z, c := r.c }, pc := s.pc + size i }

/-- AND, ORA, EOR in every mode: bit by bit with A, Z and N of the result, C and V and all else kept. R170 to R173. -/
def Obligations.LogicCombinesWithTheAccumulator : Prop :=
  ∀ (i : Instr) (s : State),
    let m := operandValue i.operand s
    let combines : (Bool → Bool → Bool) → Prop := fun f => ∃ r : Byte,
      (∀ k < 8, r.getLsbD k = f (s.a.getLsbD k) (m.getLsbD k)) ∧
      exec i s = .next { s with a := r, p := znOf s.p r, pc := s.pc + size i }
    (i.mnemonic = .AND → combines (· && ·)) ∧ (i.mnemonic = .ORA → combines (· || ·)) ∧
      (i.mnemonic = .EOR → combines (· ^^ ·))

/-- BIT in both modes: Z from A and M, N and V copies of bits 7 and 6 of M; A, memory and the rest kept. R174 (general knowledge in the spec, D44). -/
def Obligations.BitTestsMemoryAgainstAccumulator : Prop :=
  ∀ (i : Instr) (s : State), i.mnemonic = .BIT →
    ∃ ea, effAddr i.operand s = some ea ∧
      exec i s = .next { s with
        p := { s.p with
          z := decide (∀ k : Fin 8, (s.a.getLsbD k && (s.load ea).getLsbD k) = false)
          n := decide (128 ≤ (s.load ea).toNat), v := decide (64 ≤ (s.load ea).toNat % 128) }
        pc := s.pc + size i }

/-- ASL, LSR, ROL, ROR, accumulator and memory forms: one position, C the bit out, written back where it came from. R175 to R179; the bit shifted in is the spec's decision D42. -/
def Obligations.ShiftsAndRotatesMoveOnePosition : Prop :=
  ∀ (i : Instr) (s : State),
    let v := operandValue i.operand s
    let c := s.p.c.toNat
    let moves : Nat → Bool → Prop := fun result out => ∃ (r : Byte) (t : State),
      r.toNat = result % 256 ∧ exec i s = .next t ∧
      ((i.operand = .implied ∧ v = s.a ∧
          t = { s with a := r, p := { znOf s.p r with c := out }, pc := s.pc + size i }) ∨
       (∃ ea, effAddr i.operand s = some ea ∧ v = s.load ea ∧
          t = { s with mem := t.mem, p := { znOf s.p r with c := out }, pc := s.pc + size i } ∧ StoredAt ea r s t))
    (i.mnemonic = .ASL → moves (2 * v.toNat) (decide (128 ≤ v.toNat))) ∧
    (i.mnemonic = .LSR → moves (v.toNat / 2) (decide (v.toNat % 2 = 1))) ∧
    (i.mnemonic = .ROL → moves (2 * v.toNat + c) (decide (128 ≤ v.toNat))) ∧
    (i.mnemonic = .ROR → moves (v.toNat / 2 + 128 * c) (decide (v.toNat % 2 = 1)))

/-- Nine ROL (or nine ROR) of the accumulator restore A and C; ROR undoes ROL. R178: "Nine applications restore v and C" (rotation through the carry is decision D42). -/
def Obligations.NineRotationsRestoreAccumulatorAndCarry : Prop :=
  ∀ s : State,
    let run : Instr → Host.Outcome State Fault Refusal → Host.Outcome State Fault Refusal := fun i o =>
      match o with
      | .next t => exec i t
      | .fault r => .fault r
      | .refused r => .refused r
    let restored : Host.Outcome State Fault Refusal → Prop := fun o => ∃ t, o = .next t ∧ t.a = s.a ∧ t.p.c = s.p.c
    restored (Nat.rec (.next s) (fun _ o => run .rolAcc o) 9) ∧
    restored (Nat.rec (.next s) (fun _ o => run .rorAcc o) 9) ∧
    restored (run .rorAcc (exec .rolAcc s))

/-- CMP, CPX, CPY in every mode: C for at least, Z for equal, N of the difference; V, D, registers and memory kept. R185 to R188; V kept and C, D not read is the spec's decision D17. -/
def Obligations.ComparesOrderUnsigned : Prop :=
  ∀ (i : Instr) (s : State),
    let m := operandValue i.operand s
    let compares : Byte → Prop := fun r =>
      exec i s = .next { s with
        p := { s.p with
          c := decide (m.toNat ≤ r.toNat), z := decide (r = m)
          n := decide (128 ≤ (r.toNat + 256 - m.toNat) % 256) }
        pc := s.pc + size i }
    (i.mnemonic = .CMP → compares s.a) ∧ (i.mnemonic = .CPX → compares s.x) ∧ (i.mnemonic = .CPY → compares s.y)

/-- The eight branches: taken by the flag, to pc0 + 2 + signed offset modulo 65536, else past the instruction. R190 to R198; mnemonics, flags and senses are the spec's decision D43. -/
def Obligations.BranchesGoToTheTargetWhenTaken : Prop :=
  ∀ (i : Instr) (s : State) (d : Byte) (taken : Bool), i.operand = .rel d →
    branchCondition i.mnemonic s.p = some taken →
    ∃ w : Word, (w.toNat : Int) = ((s.pc.toNat : Int) + 2 + (if taken then d.toInt else 0)) % 65536 ∧
      exec i s = .next { s with pc := w }

/-- JMP: to the operand word, or through a pointer whose high byte never leaves the page; nothing else changes. R286, with R201 and R78. -/
def Obligations.JmpLoadsTheProgramCounter : Prop :=
  (∀ (s : State) (w : Word),
    exec (.jmpAbs w) s = .next { s with pc := w } ∧
    ∃ target : Word, exec (.jmpInd w) s = .next { s with pc := target } ∧
      target.toNat =
        (s.load w).toNat + 256 * (s.load (BitVec.ofNat 16 (w.toNat / 256 * 256 + (w.toNat + 1) % 256))).toNat ∧
      (w.toNat % 256 = 255 → target.toNat = (s.load w).toNat + 256 * (s.load (w - 255)).toNat) ∧
      (w.toNat % 256 ≠ 255 → target = s.read16 w ∧
        target.toNat = (s.load w).toNat + 256 * (s.load (w + 1)).toNat)) ∧
  ∀ w : Word,
    (BitVec.ofNat 16 (w.toNat / 256 * 256 + (w.toNat + 1) % 256) ≠ w + 1 ↔ w.toNat % 256 = 255) ∧
    (w.toNat % 256 = 255 ↔ ∃ page : Byte, w = wordOf page 0xFF)

/-- JSR: pc0 + 2 on the stack, high byte first, SP two less, PC at the target, nothing else. R202; write-then-decrement is the spec's decision D15. -/
def Obligations.JsrPushesTheReturnAddress : Prop :=
  ∀ (s : State) (w : Word), ∃ t, exec (.jsr w) s = .next t ∧
    t = { s with mem := t.mem, sp := s.sp - 2, pc := w } ∧
    t.load (stackAddr s.sp) = hi (s.pc + 2) ∧ t.load (stackAddr (s.sp - 1)) = lo (s.pc + 2) ∧
    (∀ b, b ≠ stackAddr s.sp → b ≠ stackAddr (s.sp - 1) → t.load b = s.load b) ∧
    (stackAddr s.sp).toNat = 0x100 + s.sp.toNat ∧ (stackAddr (s.sp - 1)).toNat = 0x100 + (s.sp.toNat + 255) % 256

/-- RTS: low byte, then high byte from the stack, plus 1; SP two more; memory and flags unchanged. R203; the pull order is the spec's decision D36. -/
def Obligations.RtsPullsAndIncrements : Prop :=
  ∀ s : State, ∃ w : Word, exec .rts s = .next { s with sp := s.sp + 2, pc := w } ∧
    w.toNat = ((s.load (stackAddr (s.sp + 1))).toNat + 256 * (s.load (stackAddr (s.sp + 2))).toNat + 1) % 65536

/-- RTS right after JSR returns to the byte after the call, with SP, registers and flags as before. R202, R203, R290. -/
def Obligations.RtsAfterJsrReturnsPastTheCall : Prop :=
  ∀ (s : State) (w : Word), ∃ t, exec (.jsr w) s = .next t ∧
    exec .rts t = .next { s with mem := t.mem, pc := s.pc + 3 } ∧
    ∀ b, b ≠ stackAddr s.sp → b ≠ stackAddr (s.sp - 1) → t.load b = s.load b

/-- PHA and PHP: one byte at $0100 + SP, SP one less modulo 256, PC one further, nothing else; PHP pushes bits 4 and 5 set. R211, R212; bit 4 of PHP is the spec's decision D12. -/
def Obligations.PushesStoreBelowTheStackPointer : Prop :=
  ∀ s : State, (stackAddr s.sp).toNat = 0x100 + s.sp.toNat ∧
    (∃ t, exec .pha s = .next t ∧ t = { s with mem := t.mem, sp := s.sp - 1, pc := s.pc + 1 } ∧
      StoredAt (stackAddr s.sp) s.a s t) ∧
    (∃ v t, exec .php s = .next t ∧ t = { s with mem := t.mem, sp := s.sp - 1, pc := s.pc + 1 } ∧
      StoredAt (stackAddr s.sp) v s t ∧ StatusBits v true s.p)

/-- PLA and PLP: SP one more, the byte there into A with Z and N, or into the six loadable flags with B cleared. R213, R214, R47; B cleared on a pull is the spec's decision D12. -/
def Obligations.PullsReadAboveTheStackPointer : Prop :=
  ∀ s : State,
    let v := s.load (stackAddr (s.sp + 1))
    exec .pla s = .next { s with a := v, sp := s.sp + 1, p := znOf s.p v, pc := s.pc + 1 } ∧
    exec .plp s = .next { s with
      sp := s.sp + 1
      p := { n := decide (128 ≤ v.toNat), v := decide (64 ≤ v.toNat % 128), b := false, d := decide (8 ≤ v.toNat % 16)
             i := decide (4 ≤ v.toNat % 8), z := decide (2 ≤ v.toNat % 4), c := decide (v.toNat % 2 = 1) }
      pc := s.pc + 1 }

/-- PLA after PHA, and PLP after PHP, restore the value and SP for every SP, wraparound included. The source's property "push(v); pop() == v for any byte v, and SP returns to its pre-push value" (R81, R210). -/
def Obligations.PullAfterPushRestores : Prop :=
  ∀ s : State,
    (∃ t u, exec .pha s = .next t ∧ exec .pla t = .next u ∧
      u = { s with mem := u.mem, p := znOf s.p s.a, pc := s.pc + 2 } ∧
      ∀ b, b ≠ stackAddr s.sp → u.load b = s.load b) ∧
    (∃ t u, exec .php s = .next t ∧ exec .plp t = .next u ∧
      u = { s with mem := u.mem, p := { s.p with b := false }, pc := s.pc + 2 } ∧
      ∀ b, b ≠ stackAddr s.sp → u.load b = s.load b)

/-- CLC, SEC, CLI, SEI, CLD, SED, CLV write their one flag and move PC, with no other effect. R220 to R227 (CLC, SEC, CLV are general knowledge in the spec, N37). -/
def Obligations.FlagInstructionsWriteOneFlag : Prop :=
  ∀ s : State,
    exec .clc s = .next { s with p := { s.p with c := false }, pc := s.pc + 1 } ∧
    exec .sec s = .next { s with p := { s.p with c := true }, pc := s.pc + 1 } ∧
    exec .cli s = .next { s with p := { s.p with i := false }, pc := s.pc + 1 } ∧
    exec .sei s = .next { s with p := { s.p with i := true }, pc := s.pc + 1 } ∧
    exec .cld s = .next { s with p := { s.p with d := false }, pc := s.pc + 1 } ∧
    exec .sed s = .next { s with p := { s.p with d := true }, pc := s.pc + 1 } ∧
    exec .clv s = .next { s with p := { s.p with v := false }, pc := s.pc + 1 }

/-- NOP: PC one further and nothing else. R228 (general knowledge in the spec, G8). -/
def Obligations.NopMovesOnlyTheProgramCounter : Prop :=
  ∀ s : State, exec .nop s = .next { s with pc := s.pc + 1 }

/-- Each undocumented byte: one byte read, PC one further, UnknownOpcode reported, one cycle, nothing else. R231. The one-cycle charge is C1 and D5, all 105 bytes alike with none halting D25 and D26 (halted is among what does not change), the list of bytes G1 (log 10). The diagnostic held in State is log 6, the list of reads beside the state log 13, the spacing of the line log 14. -/
def Obligations.SentinelIsAOneByteFlaggedNoOp : Prop :=
  ∀ (s : State) (opc : Byte), opc ∈ undocumentedBytes →
    descriptor opc =
      { opcode := opc, mnemonic := .UNDOC, mode := .implied, length := 1, cycles := 0, pen := false } ∧
    exec (.undoc opc) s = .next { s with pc := s.pc + 1, diag := some (.unknownOpcode opc s.pc) } ∧
    (s.load s.pc = opc → s.op = .instr →
      fetch s = .undoc opc ∧ opCost s = 1 ∧ commitAccesses s = [.read s.pc] ∧
      commit s = .next (check { s with pc := s.pc + 1, diag := some (.unknownOpcode opc s.pc) })) ∧
    ∀ pc0 : Word, lineText pc0 (.undoc opc) =
      hexWord pc0 ++ "   ".toList ++ hexByte opc ++ "         ???".toList

/-- BRK: pc0 + 2 and the status with bit 4 set pushed, I set, B clear after, D kept, PC from $FFFE. R230, R256; pc0 + 2, byte order and the clearing of B are decisions D13, D14, D12. -/
def Obligations.BrkEntersTheHandler : Prop :=
  ∀ s : State, ∃ t, exec .brk s = .next t ∧ Entered 0xFFFE true (s.pc + 2) s t ∧
    t.p = { s.p with i := true, b := false } ∧ SameEngine s t ∧ t.diag = s.diag

/-- RTI: status, then PC low, then PC high from the stack, no increment; B clear; memory unchanged. R204 (general knowledge in the spec, D36). -/
def Obligations.RtiRestoresStatusAndProgramCounter : Prop :=
  ∀ s : State,
    let v := s.load (stackAddr (s.sp + 1))
    exec .rti s = .next { s with
      sp := s.sp + 3
      p := { n := v.getLsbD 7, v := v.getLsbD 6, b := false, d := v.getLsbD 3, i := v.getLsbD 2, z := v.getLsbD 1
             c := v.getLsbD 0 }
      pc := wordOf (s.load (stackAddr (s.sp + 3))) (s.load (stackAddr (s.sp + 2))) }

/-- RTI right after an interrupt entry gives the interrupted state back, but for three stack bytes. R260: a handler ending in RTI is invisible but for the three stack bytes. -/
def Obligations.RtiUndoesInterruptEntry : Prop :=
  ∀ (s : State) (vector ret : Word) (b : Bool),
    let t := interruptEntry vector b ret s
    exec .rti t = .next { s with mem := t.mem, pc := ret, p := { s.p with b := false } } ∧
    ∀ a, a ≠ stackAddr s.sp → a ≠ stackAddr (s.sp - 1) → a ≠ stackAddr (s.sp - 2) → t.load a = s.load a

/-- Every instruction answers a next state from every state, and leaves the execution state alone. R7: the parameters are arguments. R250: all operations are total; R50: the counter is not readable, and no instruction writes the execution state. -/
def Obligations.EveryInstructionCompletes : Prop :=
  ∀ (i : Instr) (s : State), (∃ t, exec i s = .next t ∧ SameEngine s t) ∧
    (∀ P : Params, ∃ t, execWith P i s = .next t ∧ SameEngine s t) ∧ execWith Config.params i s = exec i s

/-- Each flag is kept by every instruction outside its row of the flag table. The dashes of R48's table, over all instructions at once. -/
def Obligations.FlagsAreWrittenOnlyAsListed : Prop :=
  ∀ (i : Instr) (s : State), ∃ t, exec i s = .next t ∧
    (i.mnemonic ∉ [.ADC, .SBC, .CMP, .CPX, .CPY, .ASL, .LSR, .ROL, .ROR, .CLC, .SEC, .PLP, .RTI] → t.p.c = s.p.c) ∧
    (i.mnemonic ∉ [.ADC, .SBC, .BIT, .CLV, .PLP, .RTI] → t.p.v = s.p.v) ∧
    (i.mnemonic ∉ [.CLI, .SEI, .PLP, .RTI, .BRK] → t.p.i = s.p.i) ∧
    (i.mnemonic ∉ [.CLD, .SED, .PLP, .RTI] → t.p.d = s.p.d) ∧
    (i.mnemonic ∉ [.PLP, .RTI, .BRK] → t.p.b = s.p.b) ∧ (i.mnemonic ∈ [.PLP, .RTI, .BRK] → t.p.b = false) ∧
    (i.mnemonic ∉ [.LDA, .LDX, .LDY, .TAX, .TAY, .TXA, .TYA, .TSX, .PLA, .INC, .DEC, .INX, .INY, .DEX, .DEY, .AND,
        .ORA, .EOR, .ADC, .SBC, .CMP, .CPX, .CPY, .ASL, .LSR, .ROL, .ROR, .BIT, .PLP, .RTI] →
      t.p.z = s.p.z ∧ t.p.n = s.p.n)

/-- A, X, Y, SP and memory are each kept by every instruction outside the lists of their writers. R31 to R34, R122. -/
def Obligations.RegistersAndMemoryAreWrittenOnlyAsListed : Prop :=
  ∀ (i : Instr) (s : State), ∃ t, exec i s = .next t ∧
    (i.mnemonic ∉ [.LDA, .PLA, .TXA, .TYA, .ADC, .SBC, .AND, .ORA, .EOR] →
      ¬ (i.mnemonic ∈ [.ASL, .LSR, .ROL, .ROR] ∧ i.operand = .implied) → t.a = s.a) ∧
    (i.mnemonic ∉ [.LDX, .TAX, .TSX, .INX, .DEX] → t.x = s.x) ∧
    (i.mnemonic ∉ [.LDY, .TAY, .INY, .DEY] → t.y = s.y) ∧
    (i.mnemonic ∉ [.PHA, .PHP, .PLA, .PLP, .JSR, .RTS, .RTI, .BRK, .TXS] → t.sp = s.sp) ∧
    (i.mnemonic ∉ [.STA, .STX, .STY, .INC, .DEC, .PHA, .PHP, .JSR, .BRK] →
      ¬ (i.mnemonic ∈ [.ASL, .LSR, .ROL, .ROR] ∧ i.operand ≠ .implied) → t.mem = s.mem)

/-- Only ADC, SBC and the status pushes read D: every other instruction acts the same whatever D is. R42, R293. -/
def Obligations.DecimalFlagIsReadOnlyByAdcSbcAndPushes : Prop :=
  ∀ (i : Instr) (s : State) (d : Bool),
    let withD : State → State := fun t => { t with p := { t.p with d := d } }
    (i.mnemonic ∈ [.PLP, .RTI, .CLD, .SED] → exec i (withD s) = exec i s) ∧
    (i.mnemonic ∉ [.ADC, .SBC, .PHP, .BRK, .PLP, .RTI, .CLD, .SED] → exec i (withD s) = mapNext withD (exec i s))

/-- No instruction reads the counter, op, the latches, halted, the driver's queue or the cycle output. R50: "It is not readable by any instruction"; R267. -/
def Obligations.InstructionsCannotReadTheExecutionState : Prop :=
  ∀ (i : Instr) (s : State) (n : Nat) (o : Op) (l p v h : Bool) (calls : List Call) (cy : Option Nat),
    let other : State → State := fun t => { t with
      cyclesRemaining := n, op := o, irqLatch := l, nmiPending := p, nmiPrev := v, halted := h, calls := calls
      cyclesOut := cy }
    exec i (other s) = mapNext other (exec i s)

/-- The diagnostic and cycle outputs alter no later behaviour. R271: an output only, not stored (the fields are the model's choice, log 6). -/
def Obligations.OutputPortsAreNeverRead : Prop :=
  ∀ (s : State) (dg : Option Diag) (cy : Option Nat),
    mapNext clearOutputs (step { s with diag := dg, cyclesOut := cy }) = mapNext clearOutputs (step s)

/-- The memory an operation leaves is exactly what its listed bus writes, in order, make of memory before. R89, R122: exactly the accesses the rules list (the list beside the state is log 13). -/
def Obligations.BusAccessesExplainEveryWrite : Prop :=
  ∀ s : State, ∃ t, commit s = .next t ∧ t.mem = (applyAccesses (commitAccesses s) s).mem

/-- Fetch, and an instruction's effect on registers and flags, depend on memory only through the bytes they list as read. R89, R122, R105: no read beside those listed (log 13). That an Implied instruction does not read the byte after it is the spec's decision D34. -/
def Obligations.InstructionsDependOnlyOnTheBytesTheyRead : Prop :=
  (∀ (i : Instr) (s : State) (mem : Memory),
    (∀ a, .read a ∈ instrAccesses i s → ({ s with mem := mem } : State).load a = s.load a) →
    ∃ t u, exec i s = .next t ∧ exec i { s with mem := mem } = .next u ∧ u = { t with mem := u.mem }) ∧
  (∀ (s : State) (mem : Memory),
    (∀ a, .read a ∈ fetchAccesses s → ({ s with mem := mem } : State).load a = s.load a) →
    fetch { s with mem := mem } = fetch s) ∧
  (∀ s : State, let d := descriptor (s.load s.pc)
    (∀ x, x ∈ fetchAccesses s ↔ ∃ k < d.length, x = .read (s.pc + BitVec.ofNat 16 k)) ∧
    (d.mode = .implied → fetchAccesses s = [.read s.pc] ∧ (fetch s).operand = .implied) ∧
    resolve .implied s = (.none, false)) ∧
  ∀ (s : State) (v z : Byte) (w : Word),
    pointerAccesses .implied s = [] ∧ pointerAccesses (.imm v) s = [] ∧ pointerAccesses (.zp z) s = [] ∧
    pointerAccesses (.zpx z) s = [] ∧ pointerAccesses (.zpy z) s = [] ∧ pointerAccesses (.abs w) s = []

/-- A step at an instruction runs what the bytes at PC decode to, then checks for interrupts and reports the cost. R247, R249, R254. -/
def Obligations.StepRunsTheDecodedInstruction : Prop :=
  ∀ (s : State) (irq nmi : Bool) (i : Instr) (rest : List Byte),
    s.op = .instr → s.cyclesRemaining = 0 → s.halted = false → nextCall s = .step irq nmi →
    decode [s.load s.pc, s.load (s.pc + 1), s.load (s.pc + 2)] = .ok (i, rest) →
    let s1 := sampled irq nmi (takeCall s)
    step s = mapNext (fun t => endStep (opCost s1) (check t)) (exec i s1)

/-- In tick mode the last tick of an instruction runs what the bytes at PC decode to. R241, R246 (the tick an operation commits on is the spec's decision D3). -/
def Obligations.LastTickCommitsTheDecodedInstruction : Prop :=
  ∀ (s : State) (irq nmi : Bool) (i : Instr) (rest : List Byte),
    s.op = .instr → s.cyclesRemaining = 1 → s.halted = false →
    decode [s.load s.pc, s.load (s.pc + 1), s.load (s.pc + 2)] = .ok (i, rest) →
    tick false irq nmi s = mapNext check (exec i { sampled irq nmi s with cyclesRemaining := 0 })

/-- Every step answers a next state, but a queued Step call in the middle of an operation, which is refused. R17, R250: no fault; R247, U12: a step in the middle of an operation is outside the model, which the refusal says (log 12). The empty queue is log 1. -/
def Obligations.StepAnswersUnlessCalledMidOperation : Prop :=
  ∀ s : State,
    ((∃ irq nmi, nextCall s = .step irq nmi) → stepReady s = false → step s = .refused .stepMidOperation) ∧
    ((∀ irq nmi, nextCall s = .step irq nmi → stepReady s = true) → ∃ t, step s = .next t) ∧
    (s.calls = [] → ∃ t, step s = .next t) ∧
    (∀ P : Params,
      ((∃ irq nmi, nextCall s = .step irq nmi) → stepReady s = false → stepWith P s = .refused .stepMidOperation) ∧
      ((∀ irq nmi, nextCall s = .step irq nmi → stepReady s = true) → ∃ t, stepWith P s = .next t)) ∧
    stepWith Config.params s = step s

/-- A tick before the last of an operation only samples the inputs and counts: cost minus 1 on the first, one less on the others. R245, R244, R243, R50. That NMI is an edge and IRQ a level is D7 and D8; that the outputs are held in the state, empty after such a tick, is log 6; the lists of accesses are log 13. -/
def Obligations.CountdownTickOnlySamplesAndCounts : Prop :=
  ∀ (s : State) (irq nmi : Bool), s.halted = false →
    (1 < s.cyclesRemaining →
      tick false irq nmi s = .next { sampled irq nmi s with cyclesRemaining := s.cyclesRemaining - 1 } ∧
      tickAccesses false s = []) ∧
    (s.cyclesRemaining = 0 → 2 ≤ opCost s →
      tick false irq nmi s = .next { sampled irq nmi s with cyclesRemaining := opCost s - 1 } ∧
      tickAccesses false s = firstTickAccesses s ∧ ∀ a v, .write a v ∉ firstTickAccesses s)

/-- Halted: a tick or step samples and does nothing else; no call but a tick with rst leaves the state, and none enters it. R273, R247, R55. That nothing enters the state is the spec's decision D25; that the outputs are held in the state is log 6, the list of accesses log 13. -/
def Obligations.HaltedIsTerminalUntilReset : Prop :=
  (∀ (s : State) (irq nmi : Bool), s.halted = true →
    tick false irq nmi s = .next (sampled irq nmi s) ∧ tickAccesses false s = [] ∧
    (stepReady s = true → stepCall irq nmi s = .next { sampled irq nmi s with cyclesOut := some 0 }) ∧
    ∃ t, tick true irq nmi s = .next t ∧ t.halted = false) ∧
  (∀ (c : Call) (s t : State), s.halted = true → (∀ irq nmi, c ≠ .tick true irq nmi) → perform c s = .next t →
    t.halted = true) ∧
  (∀ (c : Call) (s t : State), s.halted = false → perform c s = .next t → t.halted = false)

/-- A tick with rst: PC from $FFFC, SP $FD, I set, D and B clear, seven cycles to wait; A, X, Y, C, Z, V, N, memory kept. R280, R281, R242, R7; B, the latches and the tick it happens on are the spec's decisions D9, D10. -/
def Obligations.ResetTickLeavesTheResetState : Prop :=
  ∀ (s : State) (irq nmi : Bool),
    (∀ (P : Params) (run : Runner), tick true irq nmi s P run = .next { s with
      pc := wordOf (s.load 0xFFFD P) (s.load 0xFFFC P), sp := 0xFD, p := { s.p with i := true, d := false, b := false }
      cyclesRemaining := 7, op := .resetWait, irqLatch := false, nmiPending := false, nmiPrev := nmi, halted := false
      diag := none, cyclesOut := none }) ∧
    tick true irq nmi s = .next { s with
      pc := wordOf (s.load 0xFFFD) (s.load 0xFFFC), sp := 0xFD, p := { s.p with i := true, d := false, b := false }
      cyclesRemaining := 7, op := .resetWait, irqLatch := false, nmiPending := false, nmiPrev := nmi, halted := false
      diag := none, cyclesOut := none }

/-- After the first reset the registers, flags and memory hold the open parameters, for every value of them; State.reset is one case. R58, R281, R95, R7. The machine's own parameters are DESIGN CHOICE (logs 2 to 5); only the last line rests on them. -/
def Obligations.ResetStateIsAResetOfPowerOn : Prop :=
  (∀ (P : Params) (nmi : Bool), let r := resetOp nmi (powerOn P) P
    r.a = P.aPowerOn ∧ r.x = P.xPowerOn ∧ r.y = P.yPowerOn ∧ r.sp = 0xFD ∧
    r.p = { n := P.nPowerOn, v := P.vPowerOn, b := false, d := false, i := true, z := P.zPowerOn, c := P.cPowerOn } ∧
    r.cyclesRemaining = 7 ∧ r.op = .resetWait ∧ r.irqLatch = false ∧ r.nmiPending = false ∧ r.nmiPrev = nmi ∧
    r.halted = false ∧
    (P.deviceMap = [] → (∀ a, r.load a P = P.memPowerOn a) ∧
      r.pc = wordOf (P.memPowerOn 0xFFFD) (P.memPowerOn 0xFFFC))) ∧
  State.reset = resetOp false powerOn ∧ resetOp false State.reset = State.reset

/-- After a reset, seven ticks with any inputs lead to the first instruction at the reset vector's target. R282. -/
def Obligations.ResetWaitLastsSevenTicks : Prop :=
  ∀ (s : State) (nmi : Bool) (inputs : List (Bool × Bool)), inputs.length ≤ 7 →
    let r := resetOp nmi s
    ∃ t, ticks inputs r = .next t ∧
      t.a = r.a ∧ t.x = r.x ∧ t.y = r.y ∧ t.sp = r.sp ∧ t.pc = r.pc ∧ t.p = r.p ∧ t.mem = r.mem ∧ t.halted = false ∧
      t.cyclesRemaining = 7 - inputs.length ∧ t.op = (if inputs.length < 7 then .resetWait else .instr)

/-- After an instruction: NMI if an edge is latched, else IRQ if asserted and the new I is clear, else the next instruction. R243, R253 to R255; that I acts at once is the spec's decision D37, that NMI is an edge and IRQ a level D7, D8. -/
def Obligations.InterruptCheckAfterAnInstruction : Prop :=
  ∀ (s : State) (irq nmi : Bool), s.op = .instr → s.cyclesRemaining = 0 → s.halted = false →
    let pending := s.nmiPending || (nmi && !s.nmiPrev)
    ∃ t, stepCall irq nmi s = .next t ∧
      t.op = (if pending then .nmiSeq else if irq && !t.p.i then .irqSeq else .instr) ∧
      t.nmiPending = false ∧ t.nmiPrev = nmi ∧ t.irqLatch = irq ∧ t.cyclesRemaining = 0

/-- The IRQ and NMI sequences: PC and status with bit 4 clear pushed, I set, PC from $FFFE or $FFFA, 7 cycles, no check. R256 to R258, R302; byte order and the pushed PC are decision D14, D kept is D32, no check D6. -/
def Obligations.InterruptSequencesEnterTheirHandlers : Prop :=
  ∀ (s : State) (irq nmi : Bool), s.cyclesRemaining = 0 → s.halted = false →
    (s.op = .irqSeq → ∃ t, stepCall irq nmi s = .next t ∧ Entered 0xFFFE false s.pc s t ∧
      t.p = { s.p with i := true } ∧ t.op = .instr ∧ t.cyclesRemaining = 0 ∧ t.cyclesOut = some 7) ∧
    (s.op = .nmiSeq → ∃ t, stepCall irq nmi s = .next t ∧ Entered 0xFFFA false s.pc s t ∧
      t.p = { s.p with i := true } ∧ t.op = .instr ∧ t.cyclesRemaining = 0 ∧ t.cyclesOut = some 7)

/-- The IRQ sequence, the NMI sequence and the reset wait after its reset tick each take seven cycles. R302. What a sequence does at its end is in InterruptSequencesEnterTheirHandlers, what follows the wait in ResetWaitLastsSevenTicks. -/
def Obligations.NonInstructionOperationsTakeSevenCycles : Prop :=
  ∀ s : State,
    ((s.op = .irqSeq ∨ s.op = .nmiSeq) ∧ s.cyclesRemaining = 0 ∨ s.op = .resetWait ∧ s.cyclesRemaining = 7 →
      s.halted = false →
      opCost s = 7 ∧ ∀ inputs : List (Bool × Bool), 1 ≤ inputs.length → inputs.length ≤ 7 →
        ∃ t, ticks inputs s = .next t ∧ t.cyclesRemaining = 7 - inputs.length ∧ (inputs.length < 7 → t.op = s.op)) ∧
    ∀ irq nmi : Bool, ∃ t, tick true irq nmi s = .next t ∧ t.op = .resetWait ∧ t.cyclesRemaining = 7 ∧
      t.halted = false

/-- The cost of every instruction is that of its class and mode, plus page-cross and branch penalties; every operation costs 1 to 7. R300, R301, R117, R244 (the counts are general knowledge in the spec, D35). -/
def Obligations.InstructionCostsFollowTheClassTable : Prop :=
  ∀ s : State, 1 ≤ opCost s ∧ opCost s ≤ 7 ∧
    (s.op = .instr →
      opCost s = classCost (fetch s).mnemonic (fetch s).operand.mode (resolve (fetch s).operand s).2
        (branchCondition (fetch s).mnemonic s.p == some true))

/-- n ticks with constant inputs leave the state one step leaves, where n is the cycle count the step reports. R248. That the cycle count and the diagnostic are held on outputs in the state is log 6. -/
def Obligations.TickModeAndStepModeAgree : Prop :=
  ∀ (s : State) (irq nmi : Bool), stepReady s = true → s.halted = false →
    ∃ t, ticks (List.replicate (opCost s) (irq, nmi)) s = .next t ∧
      stepCall irq nmi s = .next { t with cyclesOut := some (opCost s) }

/-- The invariant of the machine holds at State.reset. R58, R38, R50. -/
def Obligations.InvariantHoldsAtReset : Prop :=
  Inv State.reset

/-- Every step keeps the invariant: canonical memory, B = 0, counter at most 7 (7 only in the reset wait), IRQ only with I clear. R38, R50, R257, R291. -/
def Obligations.InvariantIsKeptByEveryStep : Prop :=
  ∀ s t : State, Inv s → step s = .next t → Inv t

/-- The device seam: the first matching registration handles an access; with none, plain RAM; the default is all RAM (log 7). R74, R71, R72, R95, R7. -/
def Obligations.DeviceSeamAsksTheFirstMatch : Prop :=
  ∀ (e : DeviceEntry) (l : List DeviceEntry) (m : Memory) (init : Word → Byte) (a b : Word) (v : Byte) (s : State)
    (P : Params),
    (e.first.toNat ≤ a.toNat ∧ a.toNat ≤ e.last.toNat →
      busReadWith (e :: l) m a init = e.read m a ∧ busWriteWith (e :: l) m a v init = e.write m a v) ∧
    (¬ (e.first.toNat ≤ a.toNat ∧ a.toNat ≤ e.last.toNat) →
      busReadWith (e :: l) m a init = busReadWith l m a init ∧
      busWriteWith (e :: l) m a v init = busWriteWith l m a v init) ∧
    busReadWith [] m a init = Memory.read m a init ∧ busWriteWith [] m a v init = Memory.write m a v init ∧
    Memory.read [] a init = init a ∧
    Memory.read (Memory.write m a v init) b init = (if b = a then v else Memory.read m b init) ∧
    s.load a P = busReadWith P.deviceMap s.mem a P.memPowerOn ∧
    s.store a v P = { s with mem := busWriteWith P.deviceMap s.mem a v P.memPowerOn } ∧
    s.load a = Memory.read s.mem a ∧ s.store a v = { s with mem := Memory.write s.mem a v }

/-- A memory write of the host between calls changes that byte and nothing else. R19, R94 (which asks a claim about a program to exclude such a write while an operation is in flight). -/
def Obligations.HostWritesOnlyTheByteItNames : Prop :=
  ∀ (s : State) (a : Word) (v : Byte), nextCall s = .write a v →
    ∃ t, step s = .next t ∧ t = { s with mem := t.mem, calls := s.calls.tail } ∧ StoredAt a v s t
end

