-- ==== Sys2Proof/Laws/State.lean ====
section
/-! SUPPORT. What each update of the state does to each field, and that updates of registers leave memory reads alone. -/

namespace Sys2Proof.Machine

@[simp] theorem State.setA_a (s : State) (v : Byte) : (s.setA v).a = v := rfl
@[simp] theorem State.setA_x (s : State) (v : Byte) : (s.setA v).x = s.x := rfl
@[simp] theorem State.setA_y (s : State) (v : Byte) : (s.setA v).y = s.y := rfl
@[simp] theorem State.setA_sp (s : State) (v : Byte) : (s.setA v).sp = s.sp := rfl
@[simp] theorem State.setA_pc (s : State) (v : Byte) : (s.setA v).pc = s.pc := rfl
@[simp] theorem State.setA_p (s : State) (v : Byte) : (s.setA v).p = s.p := rfl
@[simp] theorem State.setA_cyclesRemaining (s : State) (v : Byte) : (s.setA v).cyclesRemaining = s.cyclesRemaining := rfl
@[simp] theorem State.setA_op (s : State) (v : Byte) : (s.setA v).op = s.op := rfl
@[simp] theorem State.setA_irqLatch (s : State) (v : Byte) : (s.setA v).irqLatch = s.irqLatch := rfl
@[simp] theorem State.setA_nmiPending (s : State) (v : Byte) : (s.setA v).nmiPending = s.nmiPending := rfl
@[simp] theorem State.setA_nmiPrev (s : State) (v : Byte) : (s.setA v).nmiPrev = s.nmiPrev := rfl
@[simp] theorem State.setA_halted (s : State) (v : Byte) : (s.setA v).halted = s.halted := rfl
@[simp] theorem State.setA_mem (s : State) (v : Byte) : (s.setA v).mem = s.mem := rfl
@[simp] theorem State.setA_calls (s : State) (v : Byte) : (s.setA v).calls = s.calls := rfl
@[simp] theorem State.setA_diag (s : State) (v : Byte) : (s.setA v).diag = s.diag := rfl
@[simp] theorem State.setA_cyclesOut (s : State) (v : Byte) : (s.setA v).cyclesOut = s.cyclesOut := rfl
@[simp] theorem State.setA_load (s : State) (v : Byte) (b : Word) (P : Params := Config.params) :
    (s.setA v).load b P = s.load b P := rfl

@[simp] theorem State.setX_a (s : State) (v : Byte) : (s.setX v).a = s.a := rfl
@[simp] theorem State.setX_x (s : State) (v : Byte) : (s.setX v).x = v := rfl
@[simp] theorem State.setX_y (s : State) (v : Byte) : (s.setX v).y = s.y := rfl
@[simp] theorem State.setX_sp (s : State) (v : Byte) : (s.setX v).sp = s.sp := rfl
@[simp] theorem State.setX_pc (s : State) (v : Byte) : (s.setX v).pc = s.pc := rfl
@[simp] theorem State.setX_p (s : State) (v : Byte) : (s.setX v).p = s.p := rfl
@[simp] theorem State.setX_cyclesRemaining (s : State) (v : Byte) : (s.setX v).cyclesRemaining = s.cyclesRemaining := rfl
@[simp] theorem State.setX_op (s : State) (v : Byte) : (s.setX v).op = s.op := rfl
@[simp] theorem State.setX_irqLatch (s : State) (v : Byte) : (s.setX v).irqLatch = s.irqLatch := rfl
@[simp] theorem State.setX_nmiPending (s : State) (v : Byte) : (s.setX v).nmiPending = s.nmiPending := rfl
@[simp] theorem State.setX_nmiPrev (s : State) (v : Byte) : (s.setX v).nmiPrev = s.nmiPrev := rfl
@[simp] theorem State.setX_halted (s : State) (v : Byte) : (s.setX v).halted = s.halted := rfl
@[simp] theorem State.setX_mem (s : State) (v : Byte) : (s.setX v).mem = s.mem := rfl
@[simp] theorem State.setX_calls (s : State) (v : Byte) : (s.setX v).calls = s.calls := rfl
@[simp] theorem State.setX_diag (s : State) (v : Byte) : (s.setX v).diag = s.diag := rfl
@[simp] theorem State.setX_cyclesOut (s : State) (v : Byte) : (s.setX v).cyclesOut = s.cyclesOut := rfl
@[simp] theorem State.setX_load (s : State) (v : Byte) (b : Word) (P : Params := Config.params) :
    (s.setX v).load b P = s.load b P := rfl

@[simp] theorem State.setY_a (s : State) (v : Byte) : (s.setY v).a = s.a := rfl
@[simp] theorem State.setY_x (s : State) (v : Byte) : (s.setY v).x = s.x := rfl
@[simp] theorem State.setY_y (s : State) (v : Byte) : (s.setY v).y = v := rfl
@[simp] theorem State.setY_sp (s : State) (v : Byte) : (s.setY v).sp = s.sp := rfl
@[simp] theorem State.setY_pc (s : State) (v : Byte) : (s.setY v).pc = s.pc := rfl
@[simp] theorem State.setY_p (s : State) (v : Byte) : (s.setY v).p = s.p := rfl
@[simp] theorem State.setY_cyclesRemaining (s : State) (v : Byte) : (s.setY v).cyclesRemaining = s.cyclesRemaining := rfl
@[simp] theorem State.setY_op (s : State) (v : Byte) : (s.setY v).op = s.op := rfl
@[simp] theorem State.setY_irqLatch (s : State) (v : Byte) : (s.setY v).irqLatch = s.irqLatch := rfl
@[simp] theorem State.setY_nmiPending (s : State) (v : Byte) : (s.setY v).nmiPending = s.nmiPending := rfl
@[simp] theorem State.setY_nmiPrev (s : State) (v : Byte) : (s.setY v).nmiPrev = s.nmiPrev := rfl
@[simp] theorem State.setY_halted (s : State) (v : Byte) : (s.setY v).halted = s.halted := rfl
@[simp] theorem State.setY_mem (s : State) (v : Byte) : (s.setY v).mem = s.mem := rfl
@[simp] theorem State.setY_calls (s : State) (v : Byte) : (s.setY v).calls = s.calls := rfl
@[simp] theorem State.setY_diag (s : State) (v : Byte) : (s.setY v).diag = s.diag := rfl
@[simp] theorem State.setY_cyclesOut (s : State) (v : Byte) : (s.setY v).cyclesOut = s.cyclesOut := rfl
@[simp] theorem State.setY_load (s : State) (v : Byte) (b : Word) (P : Params := Config.params) :
    (s.setY v).load b P = s.load b P := rfl

@[simp] theorem State.setSp_a (s : State) (v : Byte) : (s.setSp v).a = s.a := rfl
@[simp] theorem State.setSp_x (s : State) (v : Byte) : (s.setSp v).x = s.x := rfl
@[simp] theorem State.setSp_y (s : State) (v : Byte) : (s.setSp v).y = s.y := rfl
@[simp] theorem State.setSp_sp (s : State) (v : Byte) : (s.setSp v).sp = v := rfl
@[simp] theorem State.setSp_pc (s : State) (v : Byte) : (s.setSp v).pc = s.pc := rfl
@[simp] theorem State.setSp_p (s : State) (v : Byte) : (s.setSp v).p = s.p := rfl
@[simp] theorem State.setSp_cyclesRemaining (s : State) (v : Byte) : (s.setSp v).cyclesRemaining = s.cyclesRemaining := rfl
@[simp] theorem State.setSp_op (s : State) (v : Byte) : (s.setSp v).op = s.op := rfl
@[simp] theorem State.setSp_irqLatch (s : State) (v : Byte) : (s.setSp v).irqLatch = s.irqLatch := rfl
@[simp] theorem State.setSp_nmiPending (s : State) (v : Byte) : (s.setSp v).nmiPending = s.nmiPending := rfl
@[simp] theorem State.setSp_nmiPrev (s : State) (v : Byte) : (s.setSp v).nmiPrev = s.nmiPrev := rfl
@[simp] theorem State.setSp_halted (s : State) (v : Byte) : (s.setSp v).halted = s.halted := rfl
@[simp] theorem State.setSp_mem (s : State) (v : Byte) : (s.setSp v).mem = s.mem := rfl
@[simp] theorem State.setSp_calls (s : State) (v : Byte) : (s.setSp v).calls = s.calls := rfl
@[simp] theorem State.setSp_diag (s : State) (v : Byte) : (s.setSp v).diag = s.diag := rfl
@[simp] theorem State.setSp_cyclesOut (s : State) (v : Byte) : (s.setSp v).cyclesOut = s.cyclesOut := rfl
@[simp] theorem State.setSp_load (s : State) (v : Byte) (b : Word) (P : Params := Config.params) :
    (s.setSp v).load b P = s.load b P := rfl

@[simp] theorem State.setPc_a (s : State) (w : Word) : (s.setPc w).a = s.a := rfl
@[simp] theorem State.setPc_x (s : State) (w : Word) : (s.setPc w).x = s.x := rfl
@[simp] theorem State.setPc_y (s : State) (w : Word) : (s.setPc w).y = s.y := rfl
@[simp] theorem State.setPc_sp (s : State) (w : Word) : (s.setPc w).sp = s.sp := rfl
@[simp] theorem State.setPc_pc (s : State) (w : Word) : (s.setPc w).pc = w := rfl
@[simp] theorem State.setPc_p (s : State) (w : Word) : (s.setPc w).p = s.p := rfl
@[simp] theorem State.setPc_cyclesRemaining (s : State) (w : Word) : (s.setPc w).cyclesRemaining = s.cyclesRemaining := rfl
@[simp] theorem State.setPc_op (s : State) (w : Word) : (s.setPc w).op = s.op := rfl
@[simp] theorem State.setPc_irqLatch (s : State) (w : Word) : (s.setPc w).irqLatch = s.irqLatch := rfl
@[simp] theorem State.setPc_nmiPending (s : State) (w : Word) : (s.setPc w).nmiPending = s.nmiPending := rfl
@[simp] theorem State.setPc_nmiPrev (s : State) (w : Word) : (s.setPc w).nmiPrev = s.nmiPrev := rfl
@[simp] theorem State.setPc_halted (s : State) (w : Word) : (s.setPc w).halted = s.halted := rfl
@[simp] theorem State.setPc_mem (s : State) (w : Word) : (s.setPc w).mem = s.mem := rfl
@[simp] theorem State.setPc_calls (s : State) (w : Word) : (s.setPc w).calls = s.calls := rfl
@[simp] theorem State.setPc_diag (s : State) (w : Word) : (s.setPc w).diag = s.diag := rfl
@[simp] theorem State.setPc_cyclesOut (s : State) (w : Word) : (s.setPc w).cyclesOut = s.cyclesOut := rfl
@[simp] theorem State.setPc_load (s : State) (w : Word) (b : Word) (P : Params := Config.params) :
    (s.setPc w).load b P = s.load b P := rfl

@[simp] theorem State.setFlags_a (s : State) (q : Flags) : (s.setFlags q).a = s.a := rfl
@[simp] theorem State.setFlags_x (s : State) (q : Flags) : (s.setFlags q).x = s.x := rfl
@[simp] theorem State.setFlags_y (s : State) (q : Flags) : (s.setFlags q).y = s.y := rfl
@[simp] theorem State.setFlags_sp (s : State) (q : Flags) : (s.setFlags q).sp = s.sp := rfl
@[simp] theorem State.setFlags_pc (s : State) (q : Flags) : (s.setFlags q).pc = s.pc := rfl
@[simp] theorem State.setFlags_p (s : State) (q : Flags) : (s.setFlags q).p = q := rfl
@[simp] theorem State.setFlags_cyclesRemaining (s : State) (q : Flags) : (s.setFlags q).cyclesRemaining = s.cyclesRemaining := rfl
@[simp] theorem State.setFlags_op (s : State) (q : Flags) : (s.setFlags q).op = s.op := rfl
@[simp] theorem State.setFlags_irqLatch (s : State) (q : Flags) : (s.setFlags q).irqLatch = s.irqLatch := rfl
@[simp] theorem State.setFlags_nmiPending (s : State) (q : Flags) : (s.setFlags q).nmiPending = s.nmiPending := rfl
@[simp] theorem State.setFlags_nmiPrev (s : State) (q : Flags) : (s.setFlags q).nmiPrev = s.nmiPrev := rfl
@[simp] theorem State.setFlags_halted (s : State) (q : Flags) : (s.setFlags q).halted = s.halted := rfl
@[simp] theorem State.setFlags_mem (s : State) (q : Flags) : (s.setFlags q).mem = s.mem := rfl
@[simp] theorem State.setFlags_calls (s : State) (q : Flags) : (s.setFlags q).calls = s.calls := rfl
@[simp] theorem State.setFlags_diag (s : State) (q : Flags) : (s.setFlags q).diag = s.diag := rfl
@[simp] theorem State.setFlags_cyclesOut (s : State) (q : Flags) : (s.setFlags q).cyclesOut = s.cyclesOut := rfl
@[simp] theorem State.setFlags_load (s : State) (q : Flags) (b : Word) (P : Params := Config.params) :
    (s.setFlags q).load b P = s.load b P := rfl

@[simp] theorem State.store_a (s : State) (k : Word) (v : Byte) (P : Params := Config.params) :
    (s.store k v P).a = s.a := rfl
@[simp] theorem State.store_x (s : State) (k : Word) (v : Byte) (P : Params := Config.params) :
    (s.store k v P).x = s.x := rfl
@[simp] theorem State.store_y (s : State) (k : Word) (v : Byte) (P : Params := Config.params) :
    (s.store k v P).y = s.y := rfl
@[simp] theorem State.store_sp (s : State) (k : Word) (v : Byte) (P : Params := Config.params) :
    (s.store k v P).sp = s.sp := rfl
@[simp] theorem State.store_pc (s : State) (k : Word) (v : Byte) (P : Params := Config.params) :
    (s.store k v P).pc = s.pc := rfl
@[simp] theorem State.store_p (s : State) (k : Word) (v : Byte) (P : Params := Config.params) :
    (s.store k v P).p = s.p := rfl
@[simp] theorem State.store_cyclesRemaining (s : State) (k : Word) (v : Byte) (P : Params := Config.params) :
    (s.store k v P).cyclesRemaining = s.cyclesRemaining := rfl
@[simp] theorem State.store_op (s : State) (k : Word) (v : Byte) (P : Params := Config.params) :
    (s.store k v P).op = s.op := rfl
@[simp] theorem State.store_irqLatch (s : State) (k : Word) (v : Byte) (P : Params := Config.params) :
    (s.store k v P).irqLatch = s.irqLatch := rfl
@[simp] theorem State.store_nmiPending (s : State) (k : Word) (v : Byte) (P : Params := Config.params) :
    (s.store k v P).nmiPending = s.nmiPending := rfl
@[simp] theorem State.store_nmiPrev (s : State) (k : Word) (v : Byte) (P : Params := Config.params) :
    (s.store k v P).nmiPrev = s.nmiPrev := rfl
@[simp] theorem State.store_halted (s : State) (k : Word) (v : Byte) (P : Params := Config.params) :
    (s.store k v P).halted = s.halted := rfl
@[simp] theorem State.store_calls (s : State) (k : Word) (v : Byte) (P : Params := Config.params) :
    (s.store k v P).calls = s.calls := rfl
@[simp] theorem State.store_diag (s : State) (k : Word) (v : Byte) (P : Params := Config.params) :
    (s.store k v P).diag = s.diag := rfl
@[simp] theorem State.store_cyclesOut (s : State) (k : Word) (v : Byte) (P : Params := Config.params) :
    (s.store k v P).cyclesOut = s.cyclesOut := rfl

@[simp] theorem State.push_a (s : State) (v : Byte) (P : Params := Config.params) :
    (s.push v P).a = s.a := rfl
@[simp] theorem State.push_x (s : State) (v : Byte) (P : Params := Config.params) :
    (s.push v P).x = s.x := rfl
@[simp] theorem State.push_y (s : State) (v : Byte) (P : Params := Config.params) :
    (s.push v P).y = s.y := rfl
@[simp] theorem State.push_sp (s : State) (v : Byte) (P : Params := Config.params) :
    (s.push v P).sp = s.sp - 1 := rfl
@[simp] theorem State.push_pc (s : State) (v : Byte) (P : Params := Config.params) :
    (s.push v P).pc = s.pc := rfl
@[simp] theorem State.push_p (s : State) (v : Byte) (P : Params := Config.params) :
    (s.push v P).p = s.p := rfl
@[simp] theorem State.push_cyclesRemaining (s : State) (v : Byte) (P : Params := Config.params) :
    (s.push v P).cyclesRemaining = s.cyclesRemaining := rfl
@[simp] theorem State.push_op (s : State) (v : Byte) (P : Params := Config.params) :
    (s.push v P).op = s.op := rfl
@[simp] theorem State.push_irqLatch (s : State) (v : Byte) (P : Params := Config.params) :
    (s.push v P).irqLatch = s.irqLatch := rfl
@[simp] theorem State.push_nmiPending (s : State) (v : Byte) (P : Params := Config.params) :
    (s.push v P).nmiPending = s.nmiPending := rfl
@[simp] theorem State.push_nmiPrev (s : State) (v : Byte) (P : Params := Config.params) :
    (s.push v P).nmiPrev = s.nmiPrev := rfl
@[simp] theorem State.push_halted (s : State) (v : Byte) (P : Params := Config.params) :
    (s.push v P).halted = s.halted := rfl
@[simp] theorem State.push_calls (s : State) (v : Byte) (P : Params := Config.params) :
    (s.push v P).calls = s.calls := rfl
@[simp] theorem State.push_diag (s : State) (v : Byte) (P : Params := Config.params) :
    (s.push v P).diag = s.diag := rfl
@[simp] theorem State.push_cyclesOut (s : State) (v : Byte) (P : Params := Config.params) :
    (s.push v P).cyclesOut = s.cyclesOut := rfl

@[simp] theorem State.pop_a (s : State) : (s.pop).a = s.a := rfl
@[simp] theorem State.pop_x (s : State) : (s.pop).x = s.x := rfl
@[simp] theorem State.pop_y (s : State) : (s.pop).y = s.y := rfl
@[simp] theorem State.pop_sp (s : State) : (s.pop).sp = s.sp + 1 := rfl
@[simp] theorem State.pop_pc (s : State) : (s.pop).pc = s.pc := rfl
@[simp] theorem State.pop_p (s : State) : (s.pop).p = s.p := rfl
@[simp] theorem State.pop_cyclesRemaining (s : State) : (s.pop).cyclesRemaining = s.cyclesRemaining := rfl
@[simp] theorem State.pop_op (s : State) : (s.pop).op = s.op := rfl
@[simp] theorem State.pop_irqLatch (s : State) : (s.pop).irqLatch = s.irqLatch := rfl
@[simp] theorem State.pop_nmiPending (s : State) : (s.pop).nmiPending = s.nmiPending := rfl
@[simp] theorem State.pop_nmiPrev (s : State) : (s.pop).nmiPrev = s.nmiPrev := rfl
@[simp] theorem State.pop_halted (s : State) : (s.pop).halted = s.halted := rfl
@[simp] theorem State.pop_mem (s : State) : (s.pop).mem = s.mem := rfl
@[simp] theorem State.pop_calls (s : State) : (s.pop).calls = s.calls := rfl
@[simp] theorem State.pop_diag (s : State) : (s.pop).diag = s.diag := rfl
@[simp] theorem State.pop_cyclesOut (s : State) : (s.pop).cyclesOut = s.cyclesOut := rfl
@[simp] theorem State.pop_load (s : State) (b : Word) (P : Params := Config.params) :
    (s.pop).load b P = s.load b P := rfl

@[simp] theorem advance_a (o : Operand) (s : State) : (advance o s).a = s.a := rfl
@[simp] theorem advance_x (o : Operand) (s : State) : (advance o s).x = s.x := rfl
@[simp] theorem advance_y (o : Operand) (s : State) : (advance o s).y = s.y := rfl
@[simp] theorem advance_sp (o : Operand) (s : State) : (advance o s).sp = s.sp := rfl
@[simp] theorem advance_p (o : Operand) (s : State) : (advance o s).p = s.p := rfl
@[simp] theorem advance_cyclesRemaining (o : Operand) (s : State) : (advance o s).cyclesRemaining = s.cyclesRemaining := rfl
@[simp] theorem advance_op (o : Operand) (s : State) : (advance o s).op = s.op := rfl
@[simp] theorem advance_irqLatch (o : Operand) (s : State) : (advance o s).irqLatch = s.irqLatch := rfl
@[simp] theorem advance_nmiPending (o : Operand) (s : State) : (advance o s).nmiPending = s.nmiPending := rfl
@[simp] theorem advance_nmiPrev (o : Operand) (s : State) : (advance o s).nmiPrev = s.nmiPrev := rfl
@[simp] theorem advance_halted (o : Operand) (s : State) : (advance o s).halted = s.halted := rfl
@[simp] theorem advance_mem (o : Operand) (s : State) : (advance o s).mem = s.mem := rfl
@[simp] theorem advance_calls (o : Operand) (s : State) : (advance o s).calls = s.calls := rfl
@[simp] theorem advance_diag (o : Operand) (s : State) : (advance o s).diag = s.diag := rfl
@[simp] theorem advance_cyclesOut (o : Operand) (s : State) : (advance o s).cyclesOut = s.cyclesOut := rfl
@[simp] theorem advance_load (o : Operand) (s : State) (b : Word) (P : Params := Config.params) :
    (advance o s).load b P = s.load b P := rfl

@[simp] theorem jumpTo_a (o : Operand) (s : State) (P : Params := Config.params) : (jumpTo o s P).a = s.a := rfl
@[simp] theorem jumpTo_x (o : Operand) (s : State) (P : Params := Config.params) : (jumpTo o s P).x = s.x := rfl
@[simp] theorem jumpTo_y (o : Operand) (s : State) (P : Params := Config.params) : (jumpTo o s P).y = s.y := rfl
@[simp] theorem jumpTo_sp (o : Operand) (s : State) (P : Params := Config.params) : (jumpTo o s P).sp = s.sp := rfl
@[simp] theorem jumpTo_p (o : Operand) (s : State) (P : Params := Config.params) : (jumpTo o s P).p = s.p := rfl
@[simp] theorem jumpTo_cyclesRemaining (o : Operand) (s : State) (P : Params := Config.params) : (jumpTo o s P).cyclesRemaining = s.cyclesRemaining := rfl
@[simp] theorem jumpTo_op (o : Operand) (s : State) (P : Params := Config.params) : (jumpTo o s P).op = s.op := rfl
@[simp] theorem jumpTo_irqLatch (o : Operand) (s : State) (P : Params := Config.params) : (jumpTo o s P).irqLatch = s.irqLatch := rfl
@[simp] theorem jumpTo_nmiPending (o : Operand) (s : State) (P : Params := Config.params) : (jumpTo o s P).nmiPending = s.nmiPending := rfl
@[simp] theorem jumpTo_nmiPrev (o : Operand) (s : State) (P : Params := Config.params) : (jumpTo o s P).nmiPrev = s.nmiPrev := rfl
@[simp] theorem jumpTo_halted (o : Operand) (s : State) (P : Params := Config.params) : (jumpTo o s P).halted = s.halted := rfl
@[simp] theorem jumpTo_mem (o : Operand) (s : State) (P : Params := Config.params) : (jumpTo o s P).mem = s.mem := rfl
@[simp] theorem jumpTo_calls (o : Operand) (s : State) (P : Params := Config.params) : (jumpTo o s P).calls = s.calls := rfl
@[simp] theorem jumpTo_diag (o : Operand) (s : State) (P : Params := Config.params) : (jumpTo o s P).diag = s.diag := rfl
@[simp] theorem jumpTo_cyclesOut (o : Operand) (s : State) (P : Params := Config.params) : (jumpTo o s P).cyclesOut = s.cyclesOut := rfl
@[simp] theorem jumpTo_load (o : Operand) (s : State) (b : Word) (P Q : Params := Config.params) :
    (jumpTo o s P).load b Q = s.load b Q := rfl

@[simp] theorem advance_pc (o : Operand) (s : State) : (advance o s).pc = nextPc o s := rfl

@[simp] theorem writeBack_x (o : Operand) (v : Byte) (s : State) (P : Params := Config.params) :
    (writeBack o v s P).x = s.x := by
  cases o <;> rfl
@[simp] theorem writeBack_y (o : Operand) (v : Byte) (s : State) (P : Params := Config.params) :
    (writeBack o v s P).y = s.y := by
  cases o <;> rfl
@[simp] theorem writeBack_sp (o : Operand) (v : Byte) (s : State) (P : Params := Config.params) :
    (writeBack o v s P).sp = s.sp := by
  cases o <;> rfl
@[simp] theorem writeBack_pc (o : Operand) (v : Byte) (s : State) (P : Params := Config.params) :
    (writeBack o v s P).pc = s.pc := by
  cases o <;> rfl
@[simp] theorem writeBack_p (o : Operand) (v : Byte) (s : State) (P : Params := Config.params) :
    (writeBack o v s P).p = s.p := by
  cases o <;> rfl
@[simp] theorem writeBack_cyclesRemaining (o : Operand) (v : Byte) (s : State) (P : Params := Config.params) :
    (writeBack o v s P).cyclesRemaining = s.cyclesRemaining := by
  cases o <;> rfl
@[simp] theorem writeBack_op (o : Operand) (v : Byte) (s : State) (P : Params := Config.params) :
    (writeBack o v s P).op = s.op := by
  cases o <;> rfl
@[simp] theorem writeBack_irqLatch (o : Operand) (v : Byte) (s : State) (P : Params := Config.params) :
    (writeBack o v s P).irqLatch = s.irqLatch := by
  cases o <;> rfl
@[simp] theorem writeBack_nmiPending (o : Operand) (v : Byte) (s : State) (P : Params := Config.params) :
    (writeBack o v s P).nmiPending = s.nmiPending := by
  cases o <;> rfl
@[simp] theorem writeBack_nmiPrev (o : Operand) (v : Byte) (s : State) (P : Params := Config.params) :
    (writeBack o v s P).nmiPrev = s.nmiPrev := by
  cases o <;> rfl
@[simp] theorem writeBack_halted (o : Operand) (v : Byte) (s : State) (P : Params := Config.params) :
    (writeBack o v s P).halted = s.halted := by
  cases o <;> rfl
@[simp] theorem writeBack_calls (o : Operand) (v : Byte) (s : State) (P : Params := Config.params) :
    (writeBack o v s P).calls = s.calls := by
  cases o <;> rfl
@[simp] theorem writeBack_diag (o : Operand) (v : Byte) (s : State) (P : Params := Config.params) :
    (writeBack o v s P).diag = s.diag := by
  cases o <;> rfl
@[simp] theorem writeBack_cyclesOut (o : Operand) (v : Byte) (s : State) (P : Params := Config.params) :
    (writeBack o v s P).cyclesOut = s.cyclesOut := by
  cases o <;> rfl

@[simp] theorem branchIf_a (t : Bool) (o : Operand) (s : State) (P : Params := Config.params) :
    (branchIf t o s P).a = s.a := by
  cases t <;> rfl
@[simp] theorem branchIf_x (t : Bool) (o : Operand) (s : State) (P : Params := Config.params) :
    (branchIf t o s P).x = s.x := by
  cases t <;> rfl
@[simp] theorem branchIf_y (t : Bool) (o : Operand) (s : State) (P : Params := Config.params) :
    (branchIf t o s P).y = s.y := by
  cases t <;> rfl
@[simp] theorem branchIf_sp (t : Bool) (o : Operand) (s : State) (P : Params := Config.params) :
    (branchIf t o s P).sp = s.sp := by
  cases t <;> rfl
@[simp] theorem branchIf_p (t : Bool) (o : Operand) (s : State) (P : Params := Config.params) :
    (branchIf t o s P).p = s.p := by
  cases t <;> rfl
@[simp] theorem branchIf_cyclesRemaining (t : Bool) (o : Operand) (s : State) (P : Params := Config.params) :
    (branchIf t o s P).cyclesRemaining = s.cyclesRemaining := by
  cases t <;> rfl
@[simp] theorem branchIf_op (t : Bool) (o : Operand) (s : State) (P : Params := Config.params) :
    (branchIf t o s P).op = s.op := by
  cases t <;> rfl
@[simp] theorem branchIf_irqLatch (t : Bool) (o : Operand) (s : State) (P : Params := Config.params) :
    (branchIf t o s P).irqLatch = s.irqLatch := by
  cases t <;> rfl
@[simp] theorem branchIf_nmiPending (t : Bool) (o : Operand) (s : State) (P : Params := Config.params) :
    (branchIf t o s P).nmiPending = s.nmiPending := by
  cases t <;> rfl
@[simp] theorem branchIf_nmiPrev (t : Bool) (o : Operand) (s : State) (P : Params := Config.params) :
    (branchIf t o s P).nmiPrev = s.nmiPrev := by
  cases t <;> rfl
@[simp] theorem branchIf_halted (t : Bool) (o : Operand) (s : State) (P : Params := Config.params) :
    (branchIf t o s P).halted = s.halted := by
  cases t <;> rfl
@[simp] theorem branchIf_mem (t : Bool) (o : Operand) (s : State) (P : Params := Config.params) :
    (branchIf t o s P).mem = s.mem := by
  cases t <;> rfl
@[simp] theorem branchIf_calls (t : Bool) (o : Operand) (s : State) (P : Params := Config.params) :
    (branchIf t o s P).calls = s.calls := by
  cases t <;> rfl
@[simp] theorem branchIf_diag (t : Bool) (o : Operand) (s : State) (P : Params := Config.params) :
    (branchIf t o s P).diag = s.diag := by
  cases t <;> rfl
@[simp] theorem branchIf_cyclesOut (t : Bool) (o : Operand) (s : State) (P : Params := Config.params) :
    (branchIf t o s P).cyclesOut = s.cyclesOut := by
  cases t <;> rfl

@[simp] theorem interruptEntry_a (vector : Word) (b : Bool) (ret : Word) (s : State)
    (P : Params := Config.params) : (interruptEntry vector b ret s P).a = s.a := by
  simp only [interruptEntry, State.setPc_a, State.setFlags_a, State.push_a]
@[simp] theorem interruptEntry_x (vector : Word) (b : Bool) (ret : Word) (s : State)
    (P : Params := Config.params) : (interruptEntry vector b ret s P).x = s.x := by
  simp only [interruptEntry, State.setPc_x, State.setFlags_x, State.push_x]
@[simp] theorem interruptEntry_y (vector : Word) (b : Bool) (ret : Word) (s : State)
    (P : Params := Config.params) : (interruptEntry vector b ret s P).y = s.y := by
  simp only [interruptEntry, State.setPc_y, State.setFlags_y, State.push_y]
@[simp] theorem interruptEntry_cyclesRemaining (vector : Word) (b : Bool) (ret : Word) (s : State)
    (P : Params := Config.params) : (interruptEntry vector b ret s P).cyclesRemaining = s.cyclesRemaining := by
  simp only [interruptEntry, State.setPc_cyclesRemaining, State.setFlags_cyclesRemaining, State.push_cyclesRemaining]
@[simp] theorem interruptEntry_op (vector : Word) (b : Bool) (ret : Word) (s : State)
    (P : Params := Config.params) : (interruptEntry vector b ret s P).op = s.op := by
  simp only [interruptEntry, State.setPc_op, State.setFlags_op, State.push_op]
@[simp] theorem interruptEntry_irqLatch (vector : Word) (b : Bool) (ret : Word) (s : State)
    (P : Params := Config.params) : (interruptEntry vector b ret s P).irqLatch = s.irqLatch := by
  simp only [interruptEntry, State.setPc_irqLatch, State.setFlags_irqLatch, State.push_irqLatch]
@[simp] theorem interruptEntry_nmiPending (vector : Word) (b : Bool) (ret : Word) (s : State)
    (P : Params := Config.params) : (interruptEntry vector b ret s P).nmiPending = s.nmiPending := by
  simp only [interruptEntry, State.setPc_nmiPending, State.setFlags_nmiPending, State.push_nmiPending]
@[simp] theorem interruptEntry_nmiPrev (vector : Word) (b : Bool) (ret : Word) (s : State)
    (P : Params := Config.params) : (interruptEntry vector b ret s P).nmiPrev = s.nmiPrev := by
  simp only [interruptEntry, State.setPc_nmiPrev, State.setFlags_nmiPrev, State.push_nmiPrev]
@[simp] theorem interruptEntry_halted (vector : Word) (b : Bool) (ret : Word) (s : State)
    (P : Params := Config.params) : (interruptEntry vector b ret s P).halted = s.halted := by
  simp only [interruptEntry, State.setPc_halted, State.setFlags_halted, State.push_halted]
@[simp] theorem interruptEntry_calls (vector : Word) (b : Bool) (ret : Word) (s : State)
    (P : Params := Config.params) : (interruptEntry vector b ret s P).calls = s.calls := by
  simp only [interruptEntry, State.setPc_calls, State.setFlags_calls, State.push_calls]
@[simp] theorem interruptEntry_diag (vector : Word) (b : Bool) (ret : Word) (s : State)
    (P : Params := Config.params) : (interruptEntry vector b ret s P).diag = s.diag := by
  simp only [interruptEntry, State.setPc_diag, State.setFlags_diag, State.push_diag]
@[simp] theorem interruptEntry_cyclesOut (vector : Word) (b : Bool) (ret : Word) (s : State)
    (P : Params := Config.params) : (interruptEntry vector b ret s P).cyclesOut = s.cyclesOut := by
  simp only [interruptEntry, State.setPc_cyclesOut, State.setFlags_cyclesOut, State.push_cyclesOut]

@[simp] theorem interruptReturn_a (s : State) (P : Params := Config.params) :
    (interruptReturn s P).a = s.a := by
  simp only [interruptReturn, State.setPc_a, State.setFlags_a, State.pop_a]
@[simp] theorem interruptReturn_x (s : State) (P : Params := Config.params) :
    (interruptReturn s P).x = s.x := by
  simp only [interruptReturn, State.setPc_x, State.setFlags_x, State.pop_x]
@[simp] theorem interruptReturn_y (s : State) (P : Params := Config.params) :
    (interruptReturn s P).y = s.y := by
  simp only [interruptReturn, State.setPc_y, State.setFlags_y, State.pop_y]
@[simp] theorem interruptReturn_cyclesRemaining (s : State) (P : Params := Config.params) :
    (interruptReturn s P).cyclesRemaining = s.cyclesRemaining := by
  simp only [interruptReturn, State.setPc_cyclesRemaining, State.setFlags_cyclesRemaining, State.pop_cyclesRemaining]
@[simp] theorem interruptReturn_op (s : State) (P : Params := Config.params) :
    (interruptReturn s P).op = s.op := by
  simp only [interruptReturn, State.setPc_op, State.setFlags_op, State.pop_op]
@[simp] theorem interruptReturn_irqLatch (s : State) (P : Params := Config.params) :
    (interruptReturn s P).irqLatch = s.irqLatch := by
  simp only [interruptReturn, State.setPc_irqLatch, State.setFlags_irqLatch, State.pop_irqLatch]
@[simp] theorem interruptReturn_nmiPending (s : State) (P : Params := Config.params) :
    (interruptReturn s P).nmiPending = s.nmiPending := by
  simp only [interruptReturn, State.setPc_nmiPending, State.setFlags_nmiPending, State.pop_nmiPending]
@[simp] theorem interruptReturn_nmiPrev (s : State) (P : Params := Config.params) :
    (interruptReturn s P).nmiPrev = s.nmiPrev := by
  simp only [interruptReturn, State.setPc_nmiPrev, State.setFlags_nmiPrev, State.pop_nmiPrev]
@[simp] theorem interruptReturn_halted (s : State) (P : Params := Config.params) :
    (interruptReturn s P).halted = s.halted := by
  simp only [interruptReturn, State.setPc_halted, State.setFlags_halted, State.pop_halted]
@[simp] theorem interruptReturn_mem (s : State) (P : Params := Config.params) :
    (interruptReturn s P).mem = s.mem := by
  simp only [interruptReturn, State.setPc_mem, State.setFlags_mem, State.pop_mem]
@[simp] theorem interruptReturn_calls (s : State) (P : Params := Config.params) :
    (interruptReturn s P).calls = s.calls := by
  simp only [interruptReturn, State.setPc_calls, State.setFlags_calls, State.pop_calls]
@[simp] theorem interruptReturn_diag (s : State) (P : Params := Config.params) :
    (interruptReturn s P).diag = s.diag := by
  simp only [interruptReturn, State.setPc_diag, State.setFlags_diag, State.pop_diag]
@[simp] theorem interruptReturn_cyclesOut (s : State) (P : Params := Config.params) :
    (interruptReturn s P).cyclesOut = s.cyclesOut := by
  simp only [interruptReturn, State.setPc_cyclesOut, State.setFlags_cyclesOut, State.pop_cyclesOut]

end Sys2Proof.Machine
end

