-- ==== Sys2Proof/Laws/Memory.lean ====
section
/-! SUPPORT. Memory: a read after a write, and that every operation keeps the canonical form. -/

namespace Sys2Proof.Machine

theorem Memory.read_insert_same (m : Memory) (a : Word) (v : Byte) {init : Word → Byte} :
    Memory.read (Memory.insert m a.toNat v) a init = v := by
  induction m with
  | nil => simp [Memory.insert, Memory.read]
  | cons c rest ih =>
    obtain ⟨k, w⟩ := c
    unfold Memory.insert
    split
    · simp [Memory.read]
    · split
      · simp [Memory.read]
      · simp only [Memory.read]
        rw [if_neg (by omega), ih]

theorem Memory.read_insert_other (m : Memory) {a b : Word} (h : b ≠ a) (v : Byte)
    {init : Word → Byte} : Memory.read (Memory.insert m a.toNat v) b init = Memory.read m b init := by
  have hne : a.toNat ≠ b.toNat := fun e => h (BitVec.eq_of_toNat_eq e.symm)
  induction m with
  | nil => simp [Memory.insert, Memory.read, hne]
  | cons c rest ih =>
    obtain ⟨k, w⟩ := c
    unfold Memory.insert
    split
    · simp [Memory.read, hne]
    · split
      next hk => subst hk; simp [Memory.read, hne]
      · simp only [Memory.read, ih]

theorem Memory.read_erase_same (m : Memory) (a : Word) {init : Word → Byte} :
    Memory.read (m.filter (fun c => c.1 != a.toNat)) a init = init a := by
  induction m with
  | nil => rfl
  | cons c rest ih =>
    obtain ⟨k, w⟩ := c
    by_cases hk : k = a.toNat
    · simp [hk, ih]
    · simp [hk, Memory.read, ih]

theorem Memory.read_erase_other (m : Memory) {a b : Word} (h : b ≠ a)
    {init : Word → Byte} :
    Memory.read (m.filter (fun c => c.1 != a.toNat)) b init = Memory.read m b init := by
  have hne : a.toNat ≠ b.toNat := fun e => h (BitVec.eq_of_toNat_eq e.symm)
  induction m with
  | nil => rfl
  | cons c rest ih =>
    obtain ⟨k, w⟩ := c
    by_cases hk : k = a.toNat
    · simp [hk, Memory.read, hne, ih]
    · simp [hk, Memory.read, ih]

/-- A read after a write (20_memory.md R72). -/
theorem Memory.read_write (m : Memory) (a b : Word) (v : Byte) {init : Word → Byte} :
    Memory.read (Memory.write m a v init) b init = if b = a then v else Memory.read m b init := by
  unfold Memory.write
  split
  next hv =>
    split
    next hb => subst hb; rw [Memory.read_erase_same, hv]
    next hb => rw [Memory.read_erase_other m hb]
  next hv =>
    split
    next hb => subst hb; rw [Memory.read_insert_same]
    next hb => rw [Memory.read_insert_other m hb]

theorem State.load_eq_read (s : State) (a : Word) : s.load a = Memory.read s.mem a := rfl

/-- With no device registered a load is a read of plain RAM (R74), whatever the other parameters. -/
theorem State.load_eq_readWith {P : Params} (h : P.deviceMap = []) (s : State) (a : Word) :
    s.load a P = Memory.read s.mem a P.memPowerOn := by
  simp [State.load, busReadWith, h]

/-- With no device registered a store is a write of plain RAM (R74), whatever the other parameters. -/
theorem State.store_eq_writeWith {P : Params} (h : P.deviceMap = []) (s : State) (a : Word) (v : Byte) :
    s.store a v P = { s with mem := Memory.write s.mem a v P.memPowerOn } := by
  simp [State.store, busWriteWith, h]

@[simp] theorem State.store_mem (s : State) (a : Word) (v : Byte) : (s.store a v).mem = Memory.write s.mem a v := rfl

@[simp] theorem State.push_mem (s : State) (v : Byte) :
    (s.push v).mem = Memory.write s.mem (stackAddr s.sp) v := rfl

/-- A load after a store (R71, R72). -/
theorem State.load_store (s : State) (a b : Word) (v : Byte) :
    (s.store a v).load b = if b = a then v else s.load b :=
  Memory.read_write s.mem a b v

/-- A load after a store under any parameters without a device. -/
theorem State.load_storeWith {P : Params} (h : P.deviceMap = []) (s : State) (a b : Word) (v : Byte) :
    (s.store a v P).load b P = if b = a then v else s.load b P := by
  rw [State.store_eq_writeWith h, State.load_eq_readWith h, State.load_eq_readWith h]
  exact Memory.read_write s.mem a b v

theorem Memory.insert_keys {m : Memory} {a : Nat} {v : Byte} {c : Host.Cell} (h : c ∈ Memory.insert m a v) :
    c = (a, v) ∨ c ∈ m := by
  induction m with
  | nil => simpa [Memory.insert] using h
  | cons d rest ih =>
    obtain ⟨k, w⟩ := d
    unfold Memory.insert at h
    split at h
    · simpa using h
    · split at h
      · rcases List.mem_cons.mp h with h | h
        · exact .inl h
        · exact .inr (List.mem_cons_of_mem _ h)
      · rcases List.mem_cons.mp h with h | h
        · exact .inr (h ▸ List.mem_cons_self ..)
        · exact (ih h).imp id (List.mem_cons_of_mem _)

theorem Memory.insert_sorted {m : Memory} (h : m.Pairwise (fun c d => c.1 < d.1)) (a : Nat) (v : Byte) :
    (Memory.insert m a v).Pairwise (fun c d => c.1 < d.1) := by
  induction m with
  | nil => simp [Memory.insert]
  | cons d rest ih =>
    obtain ⟨k, w⟩ := d
    obtain ⟨h1, h2⟩ := List.pairwise_cons.mp h
    unfold Memory.insert
    split
    next hlt =>
      refine List.pairwise_cons.mpr ⟨fun c hc => ?_, h⟩
      rcases List.mem_cons.mp hc with rfl | hc
      · exact hlt
      · exact Nat.lt_trans hlt (h1 c hc)
    next hlt =>
      split
      next heq => subst heq; exact List.pairwise_cons.mpr ⟨h1, h2⟩
      next hne =>
        refine List.pairwise_cons.mpr ⟨fun c hc => ?_, ih h2⟩
        rcases Memory.insert_keys hc with rfl | hc
        · show k < a; omega
        · exact h1 c hc

/-- A write keeps the canonical form. -/
theorem Memory.wf_write {init : Word → Byte} {m : Memory} (h : Memory.wf m init) (a : Word) (v : Byte) :
    Memory.wf (Memory.write m a v init) init := by
  unfold Memory.write
  split
  · exact ⟨h.1.filter _, fun c hc => h.2 c (List.mem_filter.mp hc).1⟩
  next hv =>
    refine ⟨Memory.insert_sorted h.1 _ _, fun c hc => ?_⟩
    rcases Memory.insert_keys hc with rfl | hc
    · exact ⟨a.isLt, by simpa using hv⟩
    · exact h.2 c hc

theorem Memory.wf_store {s : State} (h : Memory.wf s.mem) (a : Word) (v : Byte) : Memory.wf (s.store a v).mem :=
  Memory.wf_write h a v

theorem Memory.wf_push {s : State} (h : Memory.wf s.mem) (v : Byte) : Memory.wf (s.push v).mem :=
  Memory.wf_write h _ v

theorem Memory.wf_writeBack {s : State} (h : Memory.wf s.mem) (o : Operand) (v : Byte) :
    Memory.wf (writeBack o v s).mem := by
  unfold writeBack
  split
  · exact Memory.wf_write h _ v
  · exact h
  · exact h

theorem Memory.wf_interruptEntry {s : State} (h : Memory.wf s.mem) (vector : Word) (b : Bool) (ret : Word) :
    Memory.wf (interruptEntry vector b ret s).mem := by
  simp only [interruptEntry, State.setPc_mem, State.setFlags_mem]
  exact Memory.wf_push (Memory.wf_push (Memory.wf_push h _) _) _

theorem Memory.wf_reset : Memory.wf State.reset.mem := by decide

end Sys2Proof.Machine
end

