-- ==== Sys2Proof/Laws/Ops.lean ====
section
/-! SUPPORT. What each shared operation does, said once: write-back, push, interrupt entry and return, the reset operation,
sampling and the check. -/

namespace Sys2Proof.Machine

/-- `hi` and `lo` of a word rebuild it. -/
@[simp] theorem wordOf_hi_lo (w : Word) : wordOf (hi w) (lo w) = w := by
  apply BitVec.eq_of_getLsbD_eq
  intro k hk
  simp only [wordOf, hi, lo, BitVec.getLsbD_append, BitVec.getLsbD_setWidth, BitVec.getLsbD_extractLsb']
  by_cases h : k < 8
  · simp [h]
  · simp [h, show k - 8 < 8 by omega, show 8 + (k - 8) = k by omega]

@[simp] theorem hi_wordOf (h l : Byte) : hi (wordOf h l) = h := by
  apply BitVec.eq_of_getLsbD_eq
  intro k hk
  simp only [wordOf, hi, BitVec.getLsbD_append, BitVec.getLsbD_extractLsb']
  simp only [hk, show ¬ 8 + k < 8 by omega, show 8 + k - 8 = k by omega, decide_true, Bool.true_and, if_false]

@[simp] theorem lo_wordOf (h l : Byte) : lo (wordOf h l) = l := by
  apply BitVec.eq_of_getLsbD_eq
  intro k hk
  simp only [wordOf, lo, BitVec.getLsbD_append, BitVec.getLsbD_setWidth]
  simp only [hk, decide_true, Bool.true_and, if_true]

/-- Two slots of the stack page are the same address only for the same offset (20_memory.md R79). -/
theorem stackAddr_inj {p q : Byte} : stackAddr p = stackAddr q ↔ p = q :=
  ⟨fun h => by simpa [stackAddr] using congrArg lo h, fun h => by rw [h]⟩

/-- A load after a push (R80). -/
theorem State.load_push (s : State) (v : Byte) (b : Word) :
    (s.push v).load b = if b = stackAddr s.sp then v else s.load b :=
  State.load_store s _ b v

/-- What a write-back does (R175): it stores at the effective address, or writes `A` for an accumulator form, or nothing. -/
theorem writeBack_cases (o : Operand) (v : Byte) (s : State) (P : Params := Config.params) :
    (∃ ea, effAddr o s P = some ea ∧ writeBack o v s P = s.store ea v P) ∨
    (effAddr o s P = none ∧ o.mode = .implied ∧ writeBack o v s P = s.setA v) ∨
    (effAddr o s P = none ∧ o.mode = .immediate ∧ writeBack o v s P = s) := by
  cases o <;> simp [writeBack, effAddr, resolve, indexed, Operand.mode]

/-- An operand value comes from the effective address where there is one (R13). -/
theorem operandValue_of_effAddr {o : Operand} {s : State} {P : Params} {ea : Word} (h : effAddr o s P = some ea) :
    operandValue o s P = s.load ea P := by
  simp only [operandValue]
  unfold effAddr at h
  split at h
  next e => cases h; rfl
  · cases h
  · cases h

/-- The resolver reads only `X`, `Y`, `PC` and memory (30_encoding.md R104). -/
theorem resolve_congr {s t : State} {P : Params} (hx : t.x = s.x) (hy : t.y = s.y) (hpc : t.pc = s.pc)
    (hmem : ∀ b, t.load b P = s.load b P) (o : Operand) : resolve o t P = resolve o s P := by
  cases o <;> simp only [resolve, State.read16Bug, State.read16ZP, hx, hy, hpc, hmem]

@[simp] theorem interruptEntry_mem (vector : Word) (b : Bool) (ret : Word) (s : State)
    (P : Params := Config.params) : (interruptEntry vector b ret s P).mem =
      (((s.push (hi ret) P).push (lo ret) P).push (statusByte b s.p) P).mem := by
  simp only [interruptEntry, State.setPc_mem, State.setFlags_mem]

@[simp] theorem interruptEntry_flags (vector : Word) (b : Bool) (ret : Word) (s : State)
    (P : Params := Config.params) : (interruptEntry vector b ret s P).p = { s.p with i := true } := by
  simp only [interruptEntry, State.setPc_p, State.setFlags_p, State.push_p]

/-- Every field interrupt entry leaves alone (60_exceptions.md R256). -/
theorem interruptEntry_frame {P : Params} (vector : Word) (b : Bool) (ret : Word) (s : State) :
    interruptEntry vector b ret s P =
      { s with
        mem := (interruptEntry vector b ret s P).mem, sp := (interruptEntry vector b ret s P).sp
        p := (interruptEntry vector b ret s P).p, pc := (interruptEntry vector b ret s P).pc } := by
  simp only [interruptEntry, State.setPc, State.setFlags, State.push, State.store, State.setSp]

/-- A status byte bit by bit (10_state.md R46). -/
theorem statusByte_bits (b : Bool) (p : Flags) : StatusBits (statusByte b p) b p := by
  obtain ⟨n, v, bb, d, i, z, c⟩ := p
  revert n v b d i z c
  refine fun n v b d i z c => ⟨?_, ?_, ?_, ?_, ?_, ?_, ?_, ?_⟩ <;>
    (revert n v b d i z c; simp only [statusByte]; decide)

/-- A stack slot is no vector byte: page 1 is not page $FF (20_memory.md R85). -/
theorem stackAddr_ne {w : Word} (h : hi w ≠ 0x01) (p : Byte) : w ≠ stackAddr p := by
  rintro rfl
  exact h (by simp [stackAddr])

/-- Interrupt entry (60_exceptions.md R256), for a vector outside the stack page. -/
theorem interruptEntry_entered {vector : Word} (h0 : hi vector ≠ 0x01) (h1 : hi (vector + 1) ≠ 0x01) (b : Bool)
    (ret : Word) (s : State) : Entered vector b ret s (interruptEntry vector b ret s) := by
  have e : ∀ a, (interruptEntry vector b ret s).load a =
      (((s.push (hi ret)).push (lo ret)).push (statusByte b s.p)).load a := fun a => by
    rw [State.load_eq_read, State.load_eq_read, interruptEntry_mem]
  have d1 : s.sp ≠ s.sp - 1 := by bv_omega
  have d2 : s.sp ≠ s.sp - 1 - 1 := by bv_omega
  have d3 : s.sp - 1 ≠ s.sp - 1 - 1 := by bv_omega
  have two : s.sp - 2 = s.sp - 1 - 1 := by bv_omega
  have three : s.sp - 3 = s.sp - 1 - 1 - 1 := by bv_omega
  refine ⟨?_, ?_, ?_, ?_, ?_, ?_, ?_, ?_, ?_⟩
  · simp only [e, State.load_push, State.push_sp, stackAddr_inj, d1, d2, if_false, if_true]
  · simp only [e, State.load_push, State.push_sp, stackAddr_inj, d3, if_false, if_true]
  · rw [e, State.load_push, two]; simpa using statusByte_bits b s.p
  · intro a n1 n2 n3
    rw [two] at n3
    simp only [e, State.load_push, State.push_sp, n1, n2, n3, if_false]
  · simp only [interruptEntry, State.setPc_sp, State.setFlags_sp, State.push_sp, three]
  · simp only [interruptEntry, State.setPc_pc, State.read16, State.load_push, State.push_sp,
      stackAddr_ne h0, stackAddr_ne h1, if_false]
  · simp [interruptEntry]
  · simp [interruptEntry]
  · simp [interruptEntry]

/-- Return from interrupt, field by field (47_jump_subroutine.md R204). -/
theorem interruptReturn_eq {P : Params} (s : State) :
    interruptReturn s P =
      { s with
        sp := s.sp + 1 + 1 + 1, p := loadStatus (s.load (stackAddr (s.sp + 1)) P)
        pc := wordOf (s.load (stackAddr (s.sp + 1 + 1 + 1)) P) (s.load (stackAddr (s.sp + 1 + 1)) P) } := by
  simp only [interruptReturn, State.pop, State.setPc, State.setFlags, State.setSp, State.pulled, State.load]

/-- What the check chooses (R254). -/
theorem check_cases (s : State) :
    (s.nmiPending = true ∧ check s = { s with nmiPending := false, op := .nmiSeq }) ∨
    (s.nmiPending = false ∧ s.irqLatch = true ∧ s.p.i = false ∧ check s = { s with op := .irqSeq }) ∨
    (s.nmiPending = false ∧ (s.irqLatch = false ∨ s.p.i = true) ∧ check s = { s with op := .instr }) := by
  unfold check
  cases s.nmiPending <;> cases s.irqLatch <;> cases s.p.i <;> simp

/-- Sampling with the outputs cleared, written out (R243). -/
theorem sample_clearOutputs (irq nmi : Bool) (s : State) : sample irq nmi (clearOutputs s) = sampled irq nmi s := rfl

/-- Sampling twice with the same levels is sampling once (R243). -/
theorem sample_idem (irq nmi : Bool) (s : State) : sample irq nmi (sample irq nmi s) = sample irq nmi s := by
  unfold sample
  cases nmi <;> simp

end Sys2Proof.Machine
end

