-- ==== Sys2Proof/Laws/Exec.lean ====
section
/-! SUPPORT. `exec` said once: every instruction's meaning is the effect of its mnemonic on its operand, and it always
answers a next state (00_scope.md R14, R17). Provers cite these instead of unfolding the 152 meanings. -/

namespace Sys2Proof.Machine

/-- The effect of a mnemonic on an operand; `opc` is the opcode byte a sentinel carries. -/
def effect (m : Mnemonic) (o : Operand) (opc : Byte) (s : State) (P : Params := Config.params) : State :=
  match m with
  | .LDA => opLda o s P
  | .LDX => opLdx o s P
  | .LDY => opLdy o s P
  | .STA => opSta o s P
  | .STX => opStx o s P
  | .STY => opSty o s P
  | .TAX => opTax s
  | .TAY => opTay s
  | .TXA => opTxa s
  | .TYA => opTya s
  | .INC => opInc o s P
  | .DEC => opDec o s P
  | .INX => opInx s
  | .INY => opIny s
  | .DEX => opDex s
  | .DEY => opDey s
  | .ADC => opAdc o s P
  | .SBC => opSbc o s P
  | .AND => opAnd o s P
  | .ORA => opOra o s P
  | .EOR => opEor o s P
  | .BIT => opBit o s P
  | .ASL => opAsl o s P
  | .LSR => opLsr o s P
  | .ROL => opRol o s P
  | .ROR => opRor o s P
  | .CMP => opCmp o s P
  | .CPX => opCpx o s P
  | .CPY => opCpy o s P
  | .BCC => opBcc o s P
  | .BCS => opBcs o s P
  | .BEQ => opBeq o s P
  | .BNE => opBne o s P
  | .BMI => opBmi o s P
  | .BPL => opBpl o s P
  | .BVC => opBvc o s P
  | .BVS => opBvs o s P
  | .JMP => opJmp o s P
  | .JSR => opJsr o s P
  | .RTS => opRts s P
  | .RTI => opRti s P
  | .PHA => opPha s P
  | .PHP => opPhp s P
  | .PLA => opPla s P
  | .PLP => opPlp s P
  | .TXS => opTxs s
  | .TSX => opTsx s
  | .CLC => opClc s
  | .SEC => opSec s
  | .CLI => opCli s
  | .SEI => opSei s
  | .CLD => opCld s
  | .SED => opSed s
  | .CLV => opClv s
  | .NOP => opNop s
  | .BRK => opBrk s P
  | .UNDOC => opUndoc opc s

theorem exec_eq_effect (i : Instr) (s : State) : exec i s = .next (effect i.mnemonic i.operand i.opcode s) := by
  cases i <;> rfl

/-- The same for every value of the open parameters. -/
theorem execWith_eq_effect (P : Params) (i : Instr) (s : State) :
    execWith P i s = .next (effect i.mnemonic i.operand i.opcode s P) := by
  cases i <;> rfl

/-- The machine is the instance of its own parameters (R7). -/
theorem execWith_default : execWith Config.params = exec := by
  funext i s
  rw [execWith_eq_effect, exec_eq_effect]

theorem stepWith_default : stepWith Config.params = step := by
  funext s
  simp only [stepWith, step, execWith_default]

/-- An outcome of `exec` read backwards: the one next state it answers. -/
theorem exec_next_iff (i : Instr) (s t : State) :
    exec i s = .next t ↔ t = effect i.mnemonic i.operand i.opcode s := by
  rw [exec_eq_effect]
  constructor
  · intro h; cases h; rfl
  · rintro rfl; rfl

@[simp] theorem mapNext_next (f : State → State) (s : State) : mapNext f (.next s) = .next (f s) := rfl

/-- The state a commit leaves (60_exceptions.md R246). -/
def commitState (s : State) : State :=
  match s.op with
  | .instr => check (effect (fetch s).mnemonic (fetch s).operand (fetch s).opcode s)
  | .irqSeq => toInstr (interruptEntry irqVector false s.pc s)
  | .nmiSeq => toInstr (interruptEntry nmiVector false s.pc s)
  | .resetWait => toInstr s

/-- A commit always answers a next state. -/
theorem commit_eq (s : State) : commit s = .next (commitState s) := by
  unfold commit commitState execInstr
  cases s.op <;> simp [exec_eq_effect]

/-- What a tick can do, case by case (R241). -/
theorem tick_cases (rst irq nmi : Bool) (s : State) :
    (rst = true ∧ tick rst irq nmi s = .next (resetOp nmi (clearOutputs s))) ∨
    (rst = false ∧ s.halted = true ∧ tick rst irq nmi s = .next (sample irq nmi (clearOutputs s))) ∨
    (rst = false ∧ s.halted = false ∧
      (countDown (loadCost (sample irq nmi (clearOutputs s)))).cyclesRemaining = 0 ∧
      tick rst irq nmi s = .next (commitState (countDown (loadCost (sample irq nmi (clearOutputs s)))))) ∨
    (rst = false ∧ s.halted = false ∧
      (countDown (loadCost (sample irq nmi (clearOutputs s)))).cyclesRemaining ≠ 0 ∧
      tick rst irq nmi s = .next (countDown (loadCost (sample irq nmi (clearOutputs s))))) := by
  cases rst
  · refine Or.inr ?_
    have hh : (sample irq nmi (clearOutputs s)).halted = s.halted := rfl
    cases h : s.halted
    · by_cases hc : (countDown (loadCost (sample irq nmi (clearOutputs s)))).cyclesRemaining = 0
      · simp [tick, hh, h, hc, commit_eq]
      · simp [tick, hh, h, hc]
    · simp [tick, hh, h]
  · exact Or.inl ⟨rfl, rfl⟩

/-- What a step call can do, case by case (R247). -/
theorem stepCall_cases (irq nmi : Bool) (s : State) :
    (stepReady s = false ∧ stepCall irq nmi s = .refused .stepMidOperation) ∨
    (stepReady s = true ∧ s.halted = true ∧
      stepCall irq nmi s = .next { sample irq nmi (clearOutputs s) with cyclesOut := some 0 }) ∨
    (stepReady s = true ∧ s.halted = false ∧
      stepCall irq nmi s = .next (endStep (opCost (sample irq nmi (clearOutputs s)))
        (commitState (sample irq nmi (clearOutputs s))))) := by
  have hh : (sample irq nmi (clearOutputs s)).halted = s.halted := rfl
  cases h : stepReady s
  · simp [stepCall, h]
  · cases h2 : s.halted <;> simp [stepCall, h, hh, h2, commit_eq]

end Sys2Proof.Machine
end

