-- ==== Sys2Proof/Laws/Fetch.lean ====
section
/-! SUPPORT. What is fetched: the mnemonic and the operand of the instruction at `PC`, from the descriptor of the opcode byte
and the bytes after it (30_encoding.md R100, R102, R104 to R116, R121). -/

namespace Sys2Proof.Machine

/-- The operand of a mode, from the two bytes after the opcode. -/
def operandOf (m : Mode) (b1 b2 : Byte) : Operand :=
  match m with
  | .implied => .implied
  | .immediate => .imm b1
  | .zeroPage => .zp b1
  | .zeroPageX => .zpx b1
  | .zeroPageY => .zpy b1
  | .absolute => .abs (wordOf b2 b1)
  | .absoluteX => .abx (wordOf b2 b1)
  | .absoluteY => .aby (wordOf b2 b1)
  | .indirect => .ind (wordOf b2 b1)
  | .indirectX => .izx b1
  | .indirectY => .izy b1
  | .relative => .rel b1

theorem ofBytes_operand (opc b1 b2 : Byte) :
    (Instr.ofBytes opc b1 b2).operand = operandOf (descriptor opc).mode b1 b2 := by
  unfold Instr.ofBytes descriptor
  split <;> rfl

theorem ofBytes_mnemonic (opc b1 b2 : Byte) :
    (Instr.ofBytes opc b1 b2).mnemonic = (descriptor opc).mnemonic := by
  unfold Instr.ofBytes descriptor
  split <;> rfl

/-- The length is a function of the mode (R100, R121). -/
theorem descriptor_length (opc : Byte) : (descriptor opc).length = (descriptor opc).mode.length := by
  unfold descriptor
  split <;> rfl

theorem fetch_mnemonic (s : State) (P : Params := Config.params) :
    (fetch s P).mnemonic = (descriptor (s.load s.pc P)).mnemonic :=
  ofBytes_mnemonic ..

/-- The operand fetched, whatever the length: the bytes it does not reach are not used. -/
theorem fetch_operand (s : State) (P : Params := Config.params) :
    (fetch s P).operand =
      operandOf (descriptor (s.load s.pc P)).mode (s.load (s.pc + 1) P) (s.load (s.pc + 2) P) := by
  unfold fetch
  rw [ofBytes_operand]
  unfold operandByte
  rw [descriptor_length]
  cases (descriptor (s.load s.pc P)).mode <;> rfl

end Sys2Proof.Machine
end

