-- ==== Sys2Proof/Laws/PerInstr.lean ====
section
/-! SUPPORT. Facts of each instruction as syntax. Family `Row`: the descriptor table's row at an instruction's opcode byte
has the instruction's mnemonic and mode, and the encoding has the row's length (30_encoding.md R102, R103, R118). -/

namespace Sys2Proof.Laws

/-- The row of a well-formed instruction is its own. -/
def Row.Statement (i : Instr) : Prop :=
  i.wf = true → (descriptor i.opcode).mnemonic = i.mnemonic ∧ (descriptor i.opcode).mode = i.operand.mode ∧
    (descriptor i.opcode).length = (encode i).length

/-- No undocumented byte has a row of its own. -/
theorem sentinel_row : ∀ opc : Byte, undocumentedBytes.contains opc = true →
    descriptor opc = descriptorRow opc .UNDOC .implied 0 false := by decide

theorem Row.ldaImm (v : Byte) : Row.Statement (.ldaImm v) := fun _ => ⟨rfl, rfl, rfl⟩
theorem Row.ldaZp (z : Byte) : Row.Statement (.ldaZp z) := fun _ => ⟨rfl, rfl, rfl⟩
theorem Row.ldaZpx (z : Byte) : Row.Statement (.ldaZpx z) := fun _ => ⟨rfl, rfl, rfl⟩
theorem Row.ldaAbs (w : Word) : Row.Statement (.ldaAbs w) := fun _ => ⟨rfl, rfl, rfl⟩
theorem Row.ldaAbx (w : Word) : Row.Statement (.ldaAbx w) := fun _ => ⟨rfl, rfl, rfl⟩
theorem Row.ldaAby (w : Word) : Row.Statement (.ldaAby w) := fun _ => ⟨rfl, rfl, rfl⟩
theorem Row.ldaIzx (z : Byte) : Row.Statement (.ldaIzx z) := fun _ => ⟨rfl, rfl, rfl⟩
theorem Row.ldaIzy (z : Byte) : Row.Statement (.ldaIzy z) := fun _ => ⟨rfl, rfl, rfl⟩
theorem Row.ldxImm (v : Byte) : Row.Statement (.ldxImm v) := fun _ => ⟨rfl, rfl, rfl⟩
theorem Row.ldxZp (z : Byte) : Row.Statement (.ldxZp z) := fun _ => ⟨rfl, rfl, rfl⟩
theorem Row.ldxZpy (z : Byte) : Row.Statement (.ldxZpy z) := fun _ => ⟨rfl, rfl, rfl⟩
theorem Row.ldxAbs (w : Word) : Row.Statement (.ldxAbs w) := fun _ => ⟨rfl, rfl, rfl⟩
theorem Row.ldxAby (w : Word) : Row.Statement (.ldxAby w) := fun _ => ⟨rfl, rfl, rfl⟩
theorem Row.ldyImm (v : Byte) : Row.Statement (.ldyImm v) := fun _ => ⟨rfl, rfl, rfl⟩
theorem Row.ldyZp (z : Byte) : Row.Statement (.ldyZp z) := fun _ => ⟨rfl, rfl, rfl⟩
theorem Row.ldyZpx (z : Byte) : Row.Statement (.ldyZpx z) := fun _ => ⟨rfl, rfl, rfl⟩
theorem Row.ldyAbs (w : Word) : Row.Statement (.ldyAbs w) := fun _ => ⟨rfl, rfl, rfl⟩
theorem Row.ldyAbx (w : Word) : Row.Statement (.ldyAbx w) := fun _ => ⟨rfl, rfl, rfl⟩
theorem Row.staZp (z : Byte) : Row.Statement (.staZp z) := fun _ => ⟨rfl, rfl, rfl⟩
theorem Row.staZpx (z : Byte) : Row.Statement (.staZpx z) := fun _ => ⟨rfl, rfl, rfl⟩
theorem Row.staAbs (w : Word) : Row.Statement (.staAbs w) := fun _ => ⟨rfl, rfl, rfl⟩
theorem Row.staAbx (w : Word) : Row.Statement (.staAbx w) := fun _ => ⟨rfl, rfl, rfl⟩
theorem Row.staAby (w : Word) : Row.Statement (.staAby w) := fun _ => ⟨rfl, rfl, rfl⟩
theorem Row.staIzx (z : Byte) : Row.Statement (.staIzx z) := fun _ => ⟨rfl, rfl, rfl⟩
theorem Row.staIzy (z : Byte) : Row.Statement (.staIzy z) := fun _ => ⟨rfl, rfl, rfl⟩
theorem Row.stxZp (z : Byte) : Row.Statement (.stxZp z) := fun _ => ⟨rfl, rfl, rfl⟩
theorem Row.stxZpy (z : Byte) : Row.Statement (.stxZpy z) := fun _ => ⟨rfl, rfl, rfl⟩
theorem Row.stxAbs (w : Word) : Row.Statement (.stxAbs w) := fun _ => ⟨rfl, rfl, rfl⟩
theorem Row.styZp (z : Byte) : Row.Statement (.styZp z) := fun _ => ⟨rfl, rfl, rfl⟩
theorem Row.styZpx (z : Byte) : Row.Statement (.styZpx z) := fun _ => ⟨rfl, rfl, rfl⟩
theorem Row.styAbs (w : Word) : Row.Statement (.styAbs w) := fun _ => ⟨rfl, rfl, rfl⟩
theorem Row.tax : Row.Statement .tax := fun _ => ⟨rfl, rfl, rfl⟩
theorem Row.tay : Row.Statement .tay := fun _ => ⟨rfl, rfl, rfl⟩
theorem Row.txa : Row.Statement .txa := fun _ => ⟨rfl, rfl, rfl⟩
theorem Row.tya : Row.Statement .tya := fun _ => ⟨rfl, rfl, rfl⟩
theorem Row.incZp (z : Byte) : Row.Statement (.incZp z) := fun _ => ⟨rfl, rfl, rfl⟩
theorem Row.incZpx (z : Byte) : Row.Statement (.incZpx z) := fun _ => ⟨rfl, rfl, rfl⟩
theorem Row.incAbs (w : Word) : Row.Statement (.incAbs w) := fun _ => ⟨rfl, rfl, rfl⟩
theorem Row.incAbx (w : Word) : Row.Statement (.incAbx w) := fun _ => ⟨rfl, rfl, rfl⟩
theorem Row.decZp (z : Byte) : Row.Statement (.decZp z) := fun _ => ⟨rfl, rfl, rfl⟩
theorem Row.decZpx (z : Byte) : Row.Statement (.decZpx z) := fun _ => ⟨rfl, rfl, rfl⟩
theorem Row.decAbs (w : Word) : Row.Statement (.decAbs w) := fun _ => ⟨rfl, rfl, rfl⟩
theorem Row.decAbx (w : Word) : Row.Statement (.decAbx w) := fun _ => ⟨rfl, rfl, rfl⟩
theorem Row.inx : Row.Statement .inx := fun _ => ⟨rfl, rfl, rfl⟩
theorem Row.iny : Row.Statement .iny := fun _ => ⟨rfl, rfl, rfl⟩
theorem Row.dex : Row.Statement .dex := fun _ => ⟨rfl, rfl, rfl⟩
theorem Row.dey : Row.Statement .dey := fun _ => ⟨rfl, rfl, rfl⟩
theorem Row.adcImm (v : Byte) : Row.Statement (.adcImm v) := fun _ => ⟨rfl, rfl, rfl⟩
theorem Row.adcZp (z : Byte) : Row.Statement (.adcZp z) := fun _ => ⟨rfl, rfl, rfl⟩
theorem Row.adcZpx (z : Byte) : Row.Statement (.adcZpx z) := fun _ => ⟨rfl, rfl, rfl⟩
theorem Row.adcAbs (w : Word) : Row.Statement (.adcAbs w) := fun _ => ⟨rfl, rfl, rfl⟩
theorem Row.adcAbx (w : Word) : Row.Statement (.adcAbx w) := fun _ => ⟨rfl, rfl, rfl⟩
theorem Row.adcAby (w : Word) : Row.Statement (.adcAby w) := fun _ => ⟨rfl, rfl, rfl⟩
theorem Row.adcIzx (z : Byte) : Row.Statement (.adcIzx z) := fun _ => ⟨rfl, rfl, rfl⟩
theorem Row.adcIzy (z : Byte) : Row.Statement (.adcIzy z) := fun _ => ⟨rfl, rfl, rfl⟩
theorem Row.sbcImm (v : Byte) : Row.Statement (.sbcImm v) := fun _ => ⟨rfl, rfl, rfl⟩
theorem Row.sbcZp (z : Byte) : Row.Statement (.sbcZp z) := fun _ => ⟨rfl, rfl, rfl⟩
theorem Row.sbcZpx (z : Byte) : Row.Statement (.sbcZpx z) := fun _ => ⟨rfl, rfl, rfl⟩
theorem Row.sbcAbs (w : Word) : Row.Statement (.sbcAbs w) := fun _ => ⟨rfl, rfl, rfl⟩
theorem Row.sbcAbx (w : Word) : Row.Statement (.sbcAbx w) := fun _ => ⟨rfl, rfl, rfl⟩
theorem Row.sbcAby (w : Word) : Row.Statement (.sbcAby w) := fun _ => ⟨rfl, rfl, rfl⟩
theorem Row.sbcIzx (z : Byte) : Row.Statement (.sbcIzx z) := fun _ => ⟨rfl, rfl, rfl⟩
theorem Row.sbcIzy (z : Byte) : Row.Statement (.sbcIzy z) := fun _ => ⟨rfl, rfl, rfl⟩
theorem Row.andImm (v : Byte) : Row.Statement (.andImm v) := fun _ => ⟨rfl, rfl, rfl⟩
theorem Row.andZp (z : Byte) : Row.Statement (.andZp z) := fun _ => ⟨rfl, rfl, rfl⟩
theorem Row.andZpx (z : Byte) : Row.Statement (.andZpx z) := fun _ => ⟨rfl, rfl, rfl⟩
theorem Row.andAbs (w : Word) : Row.Statement (.andAbs w) := fun _ => ⟨rfl, rfl, rfl⟩
theorem Row.andAbx (w : Word) : Row.Statement (.andAbx w) := fun _ => ⟨rfl, rfl, rfl⟩
theorem Row.andAby (w : Word) : Row.Statement (.andAby w) := fun _ => ⟨rfl, rfl, rfl⟩
theorem Row.andIzx (z : Byte) : Row.Statement (.andIzx z) := fun _ => ⟨rfl, rfl, rfl⟩
theorem Row.andIzy (z : Byte) : Row.Statement (.andIzy z) := fun _ => ⟨rfl, rfl, rfl⟩
theorem Row.oraImm (v : Byte) : Row.Statement (.oraImm v) := fun _ => ⟨rfl, rfl, rfl⟩
theorem Row.oraZp (z : Byte) : Row.Statement (.oraZp z) := fun _ => ⟨rfl, rfl, rfl⟩
theorem Row.oraZpx (z : Byte) : Row.Statement (.oraZpx z) := fun _ => ⟨rfl, rfl, rfl⟩
theorem Row.oraAbs (w : Word) : Row.Statement (.oraAbs w) := fun _ => ⟨rfl, rfl, rfl⟩
theorem Row.oraAbx (w : Word) : Row.Statement (.oraAbx w) := fun _ => ⟨rfl, rfl, rfl⟩
theorem Row.oraAby (w : Word) : Row.Statement (.oraAby w) := fun _ => ⟨rfl, rfl, rfl⟩
theorem Row.oraIzx (z : Byte) : Row.Statement (.oraIzx z) := fun _ => ⟨rfl, rfl, rfl⟩
theorem Row.oraIzy (z : Byte) : Row.Statement (.oraIzy z) := fun _ => ⟨rfl, rfl, rfl⟩
theorem Row.eorImm (v : Byte) : Row.Statement (.eorImm v) := fun _ => ⟨rfl, rfl, rfl⟩
theorem Row.eorZp (z : Byte) : Row.Statement (.eorZp z) := fun _ => ⟨rfl, rfl, rfl⟩
theorem Row.eorZpx (z : Byte) : Row.Statement (.eorZpx z) := fun _ => ⟨rfl, rfl, rfl⟩
theorem Row.eorAbs (w : Word) : Row.Statement (.eorAbs w) := fun _ => ⟨rfl, rfl, rfl⟩
theorem Row.eorAbx (w : Word) : Row.Statement (.eorAbx w) := fun _ => ⟨rfl, rfl, rfl⟩
theorem Row.eorAby (w : Word) : Row.Statement (.eorAby w) := fun _ => ⟨rfl, rfl, rfl⟩
theorem Row.eorIzx (z : Byte) : Row.Statement (.eorIzx z) := fun _ => ⟨rfl, rfl, rfl⟩
theorem Row.eorIzy (z : Byte) : Row.Statement (.eorIzy z) := fun _ => ⟨rfl, rfl, rfl⟩
theorem Row.bitZp (z : Byte) : Row.Statement (.bitZp z) := fun _ => ⟨rfl, rfl, rfl⟩
theorem Row.bitAbs (w : Word) : Row.Statement (.bitAbs w) := fun _ => ⟨rfl, rfl, rfl⟩
theorem Row.aslAcc : Row.Statement .aslAcc := fun _ => ⟨rfl, rfl, rfl⟩
theorem Row.aslZp (z : Byte) : Row.Statement (.aslZp z) := fun _ => ⟨rfl, rfl, rfl⟩
theorem Row.aslZpx (z : Byte) : Row.Statement (.aslZpx z) := fun _ => ⟨rfl, rfl, rfl⟩
theorem Row.aslAbs (w : Word) : Row.Statement (.aslAbs w) := fun _ => ⟨rfl, rfl, rfl⟩
theorem Row.aslAbx (w : Word) : Row.Statement (.aslAbx w) := fun _ => ⟨rfl, rfl, rfl⟩
theorem Row.lsrAcc : Row.Statement .lsrAcc := fun _ => ⟨rfl, rfl, rfl⟩
theorem Row.lsrZp (z : Byte) : Row.Statement (.lsrZp z) := fun _ => ⟨rfl, rfl, rfl⟩
theorem Row.lsrZpx (z : Byte) : Row.Statement (.lsrZpx z) := fun _ => ⟨rfl, rfl, rfl⟩
theorem Row.lsrAbs (w : Word) : Row.Statement (.lsrAbs w) := fun _ => ⟨rfl, rfl, rfl⟩
theorem Row.lsrAbx (w : Word) : Row.Statement (.lsrAbx w) := fun _ => ⟨rfl, rfl, rfl⟩
theorem Row.rolAcc : Row.Statement .rolAcc := fun _ => ⟨rfl, rfl, rfl⟩
theorem Row.rolZp (z : Byte) : Row.Statement (.rolZp z) := fun _ => ⟨rfl, rfl, rfl⟩
theorem Row.rolZpx (z : Byte) : Row.Statement (.rolZpx z) := fun _ => ⟨rfl, rfl, rfl⟩
theorem Row.rolAbs (w : Word) : Row.Statement (.rolAbs w) := fun _ => ⟨rfl, rfl, rfl⟩
theorem Row.rolAbx (w : Word) : Row.Statement (.rolAbx w) := fun _ => ⟨rfl, rfl, rfl⟩
theorem Row.rorAcc : Row.Statement .rorAcc := fun _ => ⟨rfl, rfl, rfl⟩
theorem Row.rorZp (z : Byte) : Row.Statement (.rorZp z) := fun _ => ⟨rfl, rfl, rfl⟩
theorem Row.rorZpx (z : Byte) : Row.Statement (.rorZpx z) := fun _ => ⟨rfl, rfl, rfl⟩
theorem Row.rorAbs (w : Word) : Row.Statement (.rorAbs w) := fun _ => ⟨rfl, rfl, rfl⟩
theorem Row.rorAbx (w : Word) : Row.Statement (.rorAbx w) := fun _ => ⟨rfl, rfl, rfl⟩
theorem Row.cmpImm (v : Byte) : Row.Statement (.cmpImm v) := fun _ => ⟨rfl, rfl, rfl⟩
theorem Row.cmpZp (z : Byte) : Row.Statement (.cmpZp z) := fun _ => ⟨rfl, rfl, rfl⟩
theorem Row.cmpZpx (z : Byte) : Row.Statement (.cmpZpx z) := fun _ => ⟨rfl, rfl, rfl⟩
theorem Row.cmpAbs (w : Word) : Row.Statement (.cmpAbs w) := fun _ => ⟨rfl, rfl, rfl⟩
theorem Row.cmpAbx (w : Word) : Row.Statement (.cmpAbx w) := fun _ => ⟨rfl, rfl, rfl⟩
theorem Row.cmpAby (w : Word) : Row.Statement (.cmpAby w) := fun _ => ⟨rfl, rfl, rfl⟩
theorem Row.cmpIzx (z : Byte) : Row.Statement (.cmpIzx z) := fun _ => ⟨rfl, rfl, rfl⟩
theorem Row.cmpIzy (z : Byte) : Row.Statement (.cmpIzy z) := fun _ => ⟨rfl, rfl, rfl⟩
theorem Row.cpxImm (v : Byte) : Row.Statement (.cpxImm v) := fun _ => ⟨rfl, rfl, rfl⟩
theorem Row.cpxZp (z : Byte) : Row.Statement (.cpxZp z) := fun _ => ⟨rfl, rfl, rfl⟩
theorem Row.cpxAbs (w : Word) : Row.Statement (.cpxAbs w) := fun _ => ⟨rfl, rfl, rfl⟩
theorem Row.cpyImm (v : Byte) : Row.Statement (.cpyImm v) := fun _ => ⟨rfl, rfl, rfl⟩
theorem Row.cpyZp (z : Byte) : Row.Statement (.cpyZp z) := fun _ => ⟨rfl, rfl, rfl⟩
theorem Row.cpyAbs (w : Word) : Row.Statement (.cpyAbs w) := fun _ => ⟨rfl, rfl, rfl⟩
theorem Row.bcc (d : Byte) : Row.Statement (.bcc d) := fun _ => ⟨rfl, rfl, rfl⟩
theorem Row.bcs (d : Byte) : Row.Statement (.bcs d) := fun _ => ⟨rfl, rfl, rfl⟩
theorem Row.beq (d : Byte) : Row.Statement (.beq d) := fun _ => ⟨rfl, rfl, rfl⟩
theorem Row.bne (d : Byte) : Row.Statement (.bne d) := fun _ => ⟨rfl, rfl, rfl⟩
theorem Row.bmi (d : Byte) : Row.Statement (.bmi d) := fun _ => ⟨rfl, rfl, rfl⟩
theorem Row.bpl (d : Byte) : Row.Statement (.bpl d) := fun _ => ⟨rfl, rfl, rfl⟩
theorem Row.bvc (d : Byte) : Row.Statement (.bvc d) := fun _ => ⟨rfl, rfl, rfl⟩
theorem Row.bvs (d : Byte) : Row.Statement (.bvs d) := fun _ => ⟨rfl, rfl, rfl⟩
theorem Row.jmpAbs (w : Word) : Row.Statement (.jmpAbs w) := fun _ => ⟨rfl, rfl, rfl⟩
theorem Row.jmpInd (w : Word) : Row.Statement (.jmpInd w) := fun _ => ⟨rfl, rfl, rfl⟩
theorem Row.jsr (w : Word) : Row.Statement (.jsr w) := fun _ => ⟨rfl, rfl, rfl⟩
theorem Row.rts : Row.Statement .rts := fun _ => ⟨rfl, rfl, rfl⟩
theorem Row.rti : Row.Statement .rti := fun _ => ⟨rfl, rfl, rfl⟩
theorem Row.pha : Row.Statement .pha := fun _ => ⟨rfl, rfl, rfl⟩
theorem Row.php : Row.Statement .php := fun _ => ⟨rfl, rfl, rfl⟩
theorem Row.pla : Row.Statement .pla := fun _ => ⟨rfl, rfl, rfl⟩
theorem Row.plp : Row.Statement .plp := fun _ => ⟨rfl, rfl, rfl⟩
theorem Row.txs : Row.Statement .txs := fun _ => ⟨rfl, rfl, rfl⟩
theorem Row.tsx : Row.Statement .tsx := fun _ => ⟨rfl, rfl, rfl⟩
theorem Row.clc : Row.Statement .clc := fun _ => ⟨rfl, rfl, rfl⟩
theorem Row.sec : Row.Statement .sec := fun _ => ⟨rfl, rfl, rfl⟩
theorem Row.cli : Row.Statement .cli := fun _ => ⟨rfl, rfl, rfl⟩
theorem Row.sei : Row.Statement .sei := fun _ => ⟨rfl, rfl, rfl⟩
theorem Row.cld : Row.Statement .cld := fun _ => ⟨rfl, rfl, rfl⟩
theorem Row.sed : Row.Statement .sed := fun _ => ⟨rfl, rfl, rfl⟩
theorem Row.clv : Row.Statement .clv := fun _ => ⟨rfl, rfl, rfl⟩
theorem Row.nop : Row.Statement .nop := fun _ => ⟨rfl, rfl, rfl⟩
theorem Row.brk : Row.Statement .brk := fun _ => ⟨rfl, rfl, rfl⟩
theorem Row.undoc (opc : Byte) : Row.Statement (.undoc opc) := fun h => by
  show (descriptor opc).mnemonic = .UNDOC ∧ (descriptor opc).mode = .implied ∧ (descriptor opc).length = 1
  rw [sentinel_row opc h]
  exact ⟨rfl, rfl, rfl⟩

end Sys2Proof.Laws
end

