-- ==== Sys2Proof/Tests/Slice0.lean ====
section
/-! SUPPORT. Tests. Words are written out from the opcode map of the spec (30_encoding.md R118, R123), operand bytes 12 34 so
that a byte order shows; expected results are those of the spec's vectors (95_test_vectors.md part 2), whose names the tests
carry. Witnesses show, for each statement with hypotheses, inputs that meet them. -/

namespace Sys2Proof.Tests

open Sys2Proof Sys2Proof.Machine

/-- Each byte sequence decodes to its instruction with the byte after it left over, and is that instruction's encoding. -/
def reads (l : List (List Byte × Instr)) : Bool :=
  l.all (fun p => (decode (p.1 ++ [0x99])).toOption == some (p.2, [0x99]) && encode p.2 == p.1)

/-- Every word of the family loads and stores. -/
theorem test_decode_load_store : reads
  ([([0xA9, 0x12], .ldaImm 0x12), ([0xA5, 0x12], .ldaZp 0x12), ([0xB5, 0x12], .ldaZpx 0x12),
    ([0xAD, 0x12, 0x34], .ldaAbs 0x3412), ([0xBD, 0x12, 0x34], .ldaAbx 0x3412), ([0xB9, 0x12, 0x34], .ldaAby 0x3412),
    ([0xA1, 0x12], .ldaIzx 0x12), ([0xB1, 0x12], .ldaIzy 0x12), ([0xA2, 0x12], .ldxImm 0x12),
    ([0xA6, 0x12], .ldxZp 0x12), ([0xB6, 0x12], .ldxZpy 0x12), ([0xAE, 0x12, 0x34], .ldxAbs 0x3412),
    ([0xBE, 0x12, 0x34], .ldxAby 0x3412), ([0xA0, 0x12], .ldyImm 0x12), ([0xA4, 0x12], .ldyZp 0x12),
    ([0xB4, 0x12], .ldyZpx 0x12), ([0xAC, 0x12, 0x34], .ldyAbs 0x3412), ([0xBC, 0x12, 0x34], .ldyAbx 0x3412),
    ([0x85, 0x12], .staZp 0x12), ([0x95, 0x12], .staZpx 0x12), ([0x8D, 0x12, 0x34], .staAbs 0x3412),
    ([0x9D, 0x12, 0x34], .staAbx 0x3412), ([0x99, 0x12, 0x34], .staAby 0x3412), ([0x81, 0x12], .staIzx 0x12)] ++
   [([0x91, 0x12], .staIzy 0x12), ([0x86, 0x12], .stxZp 0x12), ([0x96, 0x12], .stxZpy 0x12),
    ([0x8E, 0x12, 0x34], .stxAbs 0x3412), ([0x84, 0x12], .styZp 0x12), ([0x94, 0x12], .styZpx 0x12),
    ([0x8C, 0x12, 0x34], .styAbs 0x3412)]) = true := by decide

/-- Every word of the family transfers. -/
theorem test_decode_transfer : reads
  ([([0xAA], .tax), ([0xA8], .tay), ([0x8A], .txa),
    ([0x98], .tya), ([0x9A], .txs), ([0xBA], .tsx)]) = true := by decide

/-- Every word of the family increments and decrements. -/
theorem test_decode_inc_dec : reads
  ([([0xE6, 0x12], .incZp 0x12), ([0xF6, 0x12], .incZpx 0x12), ([0xEE, 0x12, 0x34], .incAbs 0x3412),
    ([0xFE, 0x12, 0x34], .incAbx 0x3412), ([0xC6, 0x12], .decZp 0x12), ([0xD6, 0x12], .decZpx 0x12),
    ([0xCE, 0x12, 0x34], .decAbs 0x3412), ([0xDE, 0x12, 0x34], .decAbx 0x3412), ([0xE8], .inx),
    ([0xC8], .iny), ([0xCA], .dex), ([0x88], .dey)]) = true := by decide

/-- Every word of the family add and subtract. -/
theorem test_decode_arithmetic : reads
  ([([0x69, 0x12], .adcImm 0x12), ([0x65, 0x12], .adcZp 0x12), ([0x75, 0x12], .adcZpx 0x12),
    ([0x6D, 0x12, 0x34], .adcAbs 0x3412), ([0x7D, 0x12, 0x34], .adcAbx 0x3412), ([0x79, 0x12, 0x34], .adcAby 0x3412),
    ([0x61, 0x12], .adcIzx 0x12), ([0x71, 0x12], .adcIzy 0x12), ([0xE9, 0x12], .sbcImm 0x12),
    ([0xE5, 0x12], .sbcZp 0x12), ([0xF5, 0x12], .sbcZpx 0x12), ([0xED, 0x12, 0x34], .sbcAbs 0x3412),
    ([0xFD, 0x12, 0x34], .sbcAbx 0x3412), ([0xF9, 0x12, 0x34], .sbcAby 0x3412), ([0xE1, 0x12], .sbcIzx 0x12),
    ([0xF1, 0x12], .sbcIzy 0x12)]) = true := by decide

/-- Every word of the family logic and BIT. -/
theorem test_decode_logic : reads
  ([([0x29, 0x12], .andImm 0x12), ([0x25, 0x12], .andZp 0x12), ([0x35, 0x12], .andZpx 0x12),
    ([0x2D, 0x12, 0x34], .andAbs 0x3412), ([0x3D, 0x12, 0x34], .andAbx 0x3412), ([0x39, 0x12, 0x34], .andAby 0x3412),
    ([0x21, 0x12], .andIzx 0x12), ([0x31, 0x12], .andIzy 0x12), ([0x09, 0x12], .oraImm 0x12),
    ([0x05, 0x12], .oraZp 0x12), ([0x15, 0x12], .oraZpx 0x12), ([0x0D, 0x12, 0x34], .oraAbs 0x3412),
    ([0x1D, 0x12, 0x34], .oraAbx 0x3412), ([0x19, 0x12, 0x34], .oraAby 0x3412), ([0x01, 0x12], .oraIzx 0x12),
    ([0x11, 0x12], .oraIzy 0x12), ([0x49, 0x12], .eorImm 0x12), ([0x45, 0x12], .eorZp 0x12),
    ([0x55, 0x12], .eorZpx 0x12), ([0x4D, 0x12, 0x34], .eorAbs 0x3412), ([0x5D, 0x12, 0x34], .eorAbx 0x3412),
    ([0x59, 0x12, 0x34], .eorAby 0x3412), ([0x41, 0x12], .eorIzx 0x12), ([0x51, 0x12], .eorIzy 0x12)] ++
   [([0x24, 0x12], .bitZp 0x12), ([0x2C, 0x12, 0x34], .bitAbs 0x3412)]) = true := by decide

/-- Every word of the family shifts and rotates. -/
theorem test_decode_shift : reads
  ([([0x0A], .aslAcc), ([0x06, 0x12], .aslZp 0x12), ([0x16, 0x12], .aslZpx 0x12),
    ([0x0E, 0x12, 0x34], .aslAbs 0x3412), ([0x1E, 0x12, 0x34], .aslAbx 0x3412), ([0x4A], .lsrAcc),
    ([0x46, 0x12], .lsrZp 0x12), ([0x56, 0x12], .lsrZpx 0x12), ([0x4E, 0x12, 0x34], .lsrAbs 0x3412),
    ([0x5E, 0x12, 0x34], .lsrAbx 0x3412), ([0x2A], .rolAcc), ([0x26, 0x12], .rolZp 0x12),
    ([0x36, 0x12], .rolZpx 0x12), ([0x2E, 0x12, 0x34], .rolAbs 0x3412), ([0x3E, 0x12, 0x34], .rolAbx 0x3412),
    ([0x6A], .rorAcc), ([0x66, 0x12], .rorZp 0x12), ([0x76, 0x12], .rorZpx 0x12),
    ([0x6E, 0x12, 0x34], .rorAbs 0x3412), ([0x7E, 0x12, 0x34], .rorAbx 0x3412)]) = true := by decide

/-- Every word of the family compares. -/
theorem test_decode_compare : reads
  ([([0xC9, 0x12], .cmpImm 0x12), ([0xC5, 0x12], .cmpZp 0x12), ([0xD5, 0x12], .cmpZpx 0x12),
    ([0xCD, 0x12, 0x34], .cmpAbs 0x3412), ([0xDD, 0x12, 0x34], .cmpAbx 0x3412), ([0xD9, 0x12, 0x34], .cmpAby 0x3412),
    ([0xC1, 0x12], .cmpIzx 0x12), ([0xD1, 0x12], .cmpIzy 0x12), ([0xE0, 0x12], .cpxImm 0x12),
    ([0xE4, 0x12], .cpxZp 0x12), ([0xEC, 0x12, 0x34], .cpxAbs 0x3412), ([0xC0, 0x12], .cpyImm 0x12),
    ([0xC4, 0x12], .cpyZp 0x12), ([0xCC, 0x12, 0x34], .cpyAbs 0x3412)]) = true := by decide

/-- Every word of the family branches. -/
theorem test_decode_branch : reads
  ([([0x90, 0x12], .bcc 0x12), ([0xB0, 0x12], .bcs 0x12), ([0xF0, 0x12], .beq 0x12),
    ([0xD0, 0x12], .bne 0x12), ([0x30, 0x12], .bmi 0x12), ([0x10, 0x12], .bpl 0x12),
    ([0x50, 0x12], .bvc 0x12), ([0x70, 0x12], .bvs 0x12)]) = true := by decide

/-- Every word of the family jumps, subroutines, returns. -/
theorem test_decode_jump : reads
  ([([0x4C, 0x12, 0x34], .jmpAbs 0x3412), ([0x6C, 0x12, 0x34], .jmpInd 0x3412), ([0x20, 0x12, 0x34], .jsr 0x3412),
    ([0x60], .rts), ([0x40], .rti)]) = true := by decide

/-- Every word of the family stack. -/
theorem test_decode_stack : reads
  ([([0x48], .pha), ([0x08], .php), ([0x68], .pla),
    ([0x28], .plp)]) = true := by decide

/-- Every word of the family flags, NOP, BRK. -/
theorem test_decode_flag_nop_brk : reads
  ([([0x18], .clc), ([0x38], .sec), ([0x58], .cli),
    ([0x78], .sei), ([0xD8], .cld), ([0xF8], .sed),
    ([0xB8], .clv), ([0xEA], .nop), ([0x00], .brk)]) = true := by decide

/-- A sentinel is one byte, whatever follows (R119). -/
theorem test_decode_sentinel : reads ([0x02, 0x03, 0x1A, 0x44, 0x80, 0x89, 0x9B, 0xA7, 0xC2, 0xEB, 0xFA, 0xFF].map
  (fun b => ([b], .undoc b))) = true := by decide

/-- Decoding refuses by name where there are too few bytes, and only there. -/
theorem test_decode_truncated :
    (decode []).toOption = none ∧ (decode [0xA9]).toOption = none ∧ (decode [0x20, 0x12]).toOption = none ∧
      (decode [0x00]).toOption = some (.brk, []) := by decide

/-- WellFormed refuses a sentinel that carries a documented byte, the first and last undocumented ones are accepted. -/
theorem test_wf_refuses_documented_sentinel :
    Instr.wf (.undoc 0xA9) = false ∧ Instr.wf (.undoc 0x00) = false ∧ Instr.wf (.undoc 0x02) = true ∧
      Instr.wf (.undoc 0xFF) = true ∧ Instr.wf (.ldaImm 0xFF) = true := by decide

/-- Rows of the opcode table as numbers: bit 0 is the lowest bit of the first byte. -/
theorem test_decodeTableWord :
    decodeTableWord 16 0xFFA2 = some (.ldxImm 0xFF) ∧ decodeTableWord 24 0xFD0220 = some (.jsr 0xFD02) ∧
      decodeTableWord 8 0x02 = some (.undoc 0x02) ∧ decodeTableWord 8 0xAD = some (.ldaAbs 0) := by decide

/-- The state the spec's vectors start from (95_test_vectors.md, Conventions), a step queued. -/
def base : State :=
  { State.reset with
    a := 0, x := 0, y := 0, sp := 0xFD, pc := 0x0200
    p := { n := false, v := false, b := false, d := false, i := false, z := false, c := false }
    cyclesRemaining := 0, op := .instr, calls := [.step false false] }

/-- Memory bytes set. -/
def put (cells : List (Word × Byte)) (s : State) : State := cells.foldl (fun t c => t.store c.1 c.2) s

/-- A state with the instruction's bytes at its `PC`. -/
def code (bytes : List Byte) (s : State) : State := storeBytes s.pc bytes s

/-- The state after a step; a stop would show as no cycles reported. -/
def after (s : State) : State :=
  match step s with
  | .next t => t
  | .fault _ => s
  | .refused _ => s

/-- The status byte with bit 4 clear (10_state.md R46), the spec's `P`. -/
def status (s : State) : Byte := statusByte false s.p

/-- LS1: `LDA #$00`: zero sets `Z` -/
theorem test_lda_LS1 :
    let t := after (code [0xA9, 0x00] { base with a := 0x55 })
    (t.a, status t, t.cyclesOut) = (0x00, 0x22, some 2) := by decide

/-- LS11: `LDA ($40),Y`: `$20F8 + $10 = $2108`, cross, 5 + 1 -/
theorem test_lda_LS11 :
    let t := after (code [0xB1, 0x40] (put [(0x0040, 0xF8), (0x0041, 0x20), (0x2108, 0x5A)] { base with y := 0x10 }))
    (t.a, status t, t.cyclesOut) = (0x5A, 0x20, some 6) := by decide

/-- LS5: `LDX $F0,Y`: wraps to `$0010` -/
theorem test_ldx_LS5 :
    let t := after (code [0xB6, 0xF0] (put [(0x0010, 0x99)] { base with y := 0x20 }))
    (t.x, status t, t.cyclesOut) = (0x99, 0xA0, some 4) := by decide

/-- LS15: `LDX $30F0,Y`: no cross -/
theorem test_ldx_LS15 :
    let t := after (code [0xBE, 0xF0, 0x30] (put [(0x30FF, 0xFF)] { base with y := 0x0F }))
    (t.x, status t, t.cyclesOut) = (0xFF, 0xA0, some 4) := by decide

/-- LS14: `LDY $30F0,X`: cross; loads 0 -/
theorem test_ldy_LS14 :
    let t := after (code [0xBC, 0xF0, 0x30] (put [(0x3110, 0x00)] { base with x := 0x20 }))
    (status t, t.cyclesOut) = (0x22, some 5) := by decide

/-- LS17: `STA $12FF,X`: 5 with a cross -/
theorem test_sta_LS17 :
    let t := after (code [0x9D, 0xFF, 0x12] { base with a := 0xAA, x := 0x01 })
    (t.load 0x1300, status t, t.cyclesOut) = (0xAA, 0x20, some 5) := by decide

/-- LS20: `STA ($40),Y`: 6, fixed -/
theorem test_sta_LS20 :
    let t := after (code [0x91, 0x40] (put [(0x0040, 0xF8), (0x0041, 0x20)] { base with a := 0x5A, y := 0x10 }))
    (t.load 0x2108, status t, t.cyclesOut) = (0x5A, 0x20, some 6) := by decide

/-- LS22: `STX $F0,Y`: wraps to `$0010` -/
theorem test_stx_LS22 :
    let t := after (code [0x96, 0xF0] { base with x := 0x12, y := 0x20 })
    (t.load 0x0010, status t, t.cyclesOut) = (0x12, 0x20, some 4) := by decide

/-- LS23: `STY $F0,X`: wraps to `$0010` -/
theorem test_sty_LS23 :
    let t := after (code [0x94, 0xF0] { base with x := 0x20, y := 0x12 })
    (t.load 0x0010, status t, t.cyclesOut) = (0x12, 0x20, some 4) := by decide

/-- TR1: `TAX` -/
theorem test_tax_TR1 :
    let t := after (code [0xAA] { base with a := 0x80, x := 0x01 })
    (t.x, status t, t.cyclesOut) = (0x80, 0xA0, some 2) := by decide

/-- TR2: `TAY`: zero sets `Z` -/
theorem test_tay_TR2 :
    let t := after (code [0xA8] { base with y := 0x33 })
    (t.y, status t, t.cyclesOut) = (0x00, 0x22, some 2) := by decide

/-- TR3: `TXA`: clears `N` and `Z` -/
theorem test_txa_TR3 :
    let t := after (code [0x8A] { base with x := 0x7F, p := { base.p with n := true, z := true } })
    (t.a, status t, t.cyclesOut) = (0x7F, 0x20, some 2) := by decide

/-- TR4: `TYA` -/
theorem test_tya_TR4 :
    let t := after (code [0x98] { base with y := 0xFF })
    (t.a, status t, t.cyclesOut) = (0xFF, 0xA0, some 2) := by decide

/-- TR5: `TSX`: sets `Z` -/
theorem test_tsx_TR5 :
    let t := after (code [0xBA] { base with x := 0x55, sp := 0x00 })
    (t.x, status t, t.cyclesOut) = (0x00, 0x22, some 2) := by decide

/-- TR7: `TXS`: no flag changes although the value is 0 -/
theorem test_txs_TR7 :
    let t := after (code [0x9A] { base with p := { base.p with n := true } })
    (t.sp, status t, t.cyclesOut) = (0x00, 0xA0, some 2) := by decide

/-- ID1: `INC $10`: wraps to 0, `Z`; `C` not touched -/
theorem test_inc_ID1 :
    let t := after (code [0xE6, 0x10] (put [(0x0010, 0xFF)] base))
    (t.load 0x0010, status t, t.cyclesOut) = (0x00, 0x22, some 5) := by decide

/-- ID7: `INC $30FF,X`: 7 with a cross -/
theorem test_inc_ID7 :
    let t := after (code [0xFE, 0xFF, 0x30] (put [(0x3100, 0x09)] { base with x := 0x01 }))
    (t.load 0x3100, status t, t.cyclesOut) = (0x0A, 0x20, some 7) := by decide

/-- ID3: `DEC $10`: wraps to `$FF` -/
theorem test_dec_ID3 :
    let t := after (code [0xC6, 0x10] (put [(0x0010, 0x00)] { base with p := { base.p with c := true } }))
    (t.load 0x0010, status t, t.cyclesOut) = (0xFF, 0xA1, some 5) := by decide

/-- ID9: `DEC $3000,X`: `$80` to `$7F` -/
theorem test_dec_ID9 :
    let t := after (code [0xDE, 0x00, 0x30] (put [(0x3000, 0x80)] base))
    (t.load 0x3000, status t, t.cyclesOut) = (0x7F, 0x20, some 7) := by decide

/-- ID10: `INX`: wraps -/
theorem test_inx_ID10 :
    let t := after (code [0xE8] { base with x := 0xFF })
    (t.x, status t, t.cyclesOut) = (0x00, 0x22, some 2) := by decide

/-- ID11: `INY` -/
theorem test_iny_ID11 :
    let t := after (code [0xC8] { base with y := 0x7F })
    (t.y, status t, t.cyclesOut) = (0x80, 0xA0, some 2) := by decide

/-- ID13: `DEX`: wraps -/
theorem test_dex_ID13 :
    let t := after (code [0xCA] base)
    (t.x, status t, t.cyclesOut) = (0xFF, 0xA0, some 2) := by decide

/-- ID14: `DEY`: wraps; `C`, `V` kept -/
theorem test_dey_ID14 :
    let t := after (code [0x88] { base with p := { base.p with v := true, c := true } })
    (t.y, status t, t.cyclesOut) = (0xFF, 0xE1, some 2) := by decide

/-- AR2: `ADC #$90`: negative + negative = positive, `V` and `C` -/
theorem test_adc_AR2 :
    let t := after (code [0x69, 0x90] { base with a := 0xD0 })
    (t.a, status t, t.cyclesOut) = (0x60, 0x61, some 2) := by decide

/-- DM3: `ADC #$46`: 58 + 46 + 1 = 105 -/
theorem test_adc_DM3 :
    let t := after (code [0x69, 0x46] { base with a := 0x58, p := { base.p with d := true, c := true } })
    (t.a, status t, t.cyclesOut) = (0x05, 0xE9, some 2) := by decide

/-- AR14: `SBC #$01`: `-128-1`, `V` -/
theorem test_sbc_AR14 :
    let t := after (code [0xE9, 0x01] { base with a := 0x80, p := { base.p with c := true } })
    (t.a, status t, t.cyclesOut) = (0x7F, 0x61, some 2) := by decide

/-- DM12: `SBC #$21` with borrow in: 40 - 21 - 1 = 18 -/
theorem test_sbc_DM12 :
    let t := after (code [0xE9, 0x21] { base with a := 0x40, p := { base.p with d := true } })
    (t.a, status t, t.cyclesOut) = (0x18, 0x29, some 2) := by decide

/-- LG7: `AND $12FF,X`: 4 + 1 -/
theorem test_and_LG7 :
    let t := after (code [0x3D, 0xFF, 0x12] (put [(0x1300, 0x3C)] { base with a := 0xFF, x := 0x01 }))
    (t.a, status t, t.cyclesOut) = (0x3C, 0x20, some 5) := by decide

/-- LG8: `ORA ($40),Y`: 5 -/
theorem test_ora_LG8 :
    let t := after (code [0x11, 0x40] (put [(0x0040, 0x00), (0x0041, 0x20), (0x2001, 0x02)] { base with a := 0x01, y := 0x01 }))
    (t.a, status t, t.cyclesOut) = (0x03, 0x20, some 5) := by decide

/-- LG9: `EOR ($40,X)`: `$40+$C0` wraps to `$00` -/
theorem test_eor_LG9 :
    let t := after (code [0x41, 0x40] (put [(0x0000, 0x00), (0x0001, 0x20), (0x2000, 0xFF)] { base with a := 0x0F, x := 0xC0 }))
    (t.a, status t, t.cyclesOut) = (0xF0, 0xA0, some 6) := by decide

/-- LG10: `BIT $10`: `A & M = 0` so `Z`; `N`, `V` from `M`; `A` kept -/
theorem test_bit_LG10 :
    let t := after (code [0x24, 0x10] (put [(0x0010, 0xC0)] { base with a := 0x01 }))
    (status t, t.cyclesOut) = (0xE2, some 3) := by decide

/-- SH2: `ASL`: shifts in 0, not the old `C` -/
theorem test_asl_SH2 :
    let t := after (code [0x0A] { base with a := 0x41, p := { base.p with c := true } })
    (t.a, status t, t.cyclesOut) = (0x82, 0xA0, some 2) := by decide

/-- SH9: `ASL $10`: memory form, `A` kept, 5 -/
theorem test_asl_SH9 :
    let t := after (code [0x06, 0x10] (put [(0x0010, 0xC0)] { base with a := 0x11 }))
    (t.load 0x0010, status t, t.cyclesOut) = (0x80, 0xA1, some 5) := by decide

/-- SH4: `LSR`: `N` always 0 after -/
theorem test_lsr_SH4 :
    let t := after (code [0x4A] { base with a := 0xFF, p := { base.p with n := true } })
    (t.a, status t, t.cyclesOut) = (0x7F, 0x21, some 2) := by decide

/-- SH10: `LSR $FF,X`: zero-page wrap, 6 -/
theorem test_lsr_SH10 :
    let t := after (code [0x56, 0xFF] (put [(0x0000, 0x02)] { base with x := 0x01 }))
    (t.load 0x0000, status t, t.cyclesOut) = (0x01, 0x20, some 6) := by decide

/-- SH5: `ROL`: old `C` into bit 0 -/
theorem test_rol_SH5 :
    let t := after (code [0x2A] { base with a := 0x80, p := { base.p with c := true } })
    (t.a, status t, t.cyclesOut) = (0x01, 0x21, some 2) := by decide

/-- SH11: `ROL $3000`: 6 -/
theorem test_rol_SH11 :
    let t := after (code [0x2E, 0x00, 0x30] (put [(0x3000, 0x7F)] { base with p := { base.p with c := true } }))
    (t.load 0x3000, status t, t.cyclesOut) = (0xFF, 0xA0, some 6) := by decide

/-- SH7: `ROR`: old `C` into bit 7 -/
theorem test_ror_SH7 :
    let t := after (code [0x6A] { base with a := 0x01, p := { base.p with c := true } })
    (t.a, status t, t.cyclesOut) = (0x80, 0xA1, some 2) := by decide

/-- SH12: `ROR $30FF,X`: 7 with a cross -/
theorem test_ror_SH12 :
    let t := after (code [0x7E, 0xFF, 0x30] (put [(0x3100, 0x00)] { base with x := 0x01, p := { base.p with c := true } }))
    (t.load 0x3100, status t, t.cyclesOut) = (0x80, 0xA0, some 7) := by decide

/-- CP4: `CMP #$01`: `$80-$01=$7F`; an `SBC` would set `V`, a compare does not -/
theorem test_cmp_CP4 :
    let t := after (code [0xC9, 0x01] { base with a := 0x80 })
    (status t, t.cyclesOut) = (0x21, some 2) := by decide

/-- CP11: `CMP $12FF,X`: 4 + 1 -/
theorem test_cmp_CP11 :
    let t := after (code [0xDD, 0xFF, 0x12] (put [(0x1300, 0x05)] { base with a := 0x05, x := 0x01 }))
    (status t, t.cyclesOut) = (0x23, some 5) := by decide

/-- CP8: `CPX $3000` -/
theorem test_cpx_CP8 :
    let t := after (code [0xEC, 0x00, 0x30] (put [(0x3000, 0x02)] { base with x := 0x01 }))
    (status t, t.cyclesOut) = (0xA0, some 4) := by decide

/-- CP9: `CPY #$00` -/
theorem test_cpy_CP9 :
    let t := after (code [0xC0, 0x00] { base with y := 0xFF })
    (status t, t.cyclesOut) = (0xA1, some 2) := by decide

/-- BR4: `BCC`: largest forward offset, `$0202+$7F` -/
theorem test_bcc_BR4 :
    let t := after (code [0x90, 0x7F] base)
    (t.pc, status t, t.cyclesOut) = (0x0281, 0x20, some 3) := by decide

/-- BR13: `BCC`: not taken -/
theorem test_bcc_BR13 :
    let t := after (code [0x90, 0x05] { base with p := { base.p with c := true } })
    (t.pc, status t, t.cyclesOut) = (0x0202, 0x21, some 2) := by decide

/-- BR5: `BCS`: largest backward offset, `$0202-$80=$0182`, cross, 4 -/
theorem test_bcs_BR5 :
    let t := after (code [0xB0, 0x80] { base with p := { base.p with c := true } })
    (t.pc, status t, t.cyclesOut) = (0x0182, 0x21, some 4) := by decide

/-- BR14: `BCS`: not taken -/
theorem test_bcs_BR14 :
    let t := after (code [0xB0, 0x05] base)
    (t.pc, status t, t.cyclesOut) = (0x0202, 0x20, some 2) := by decide

/-- BR12: `BEQ` at `$FFF8`: `$FFFA+$10` wraps to `$000A`, cross, 4 -/
theorem test_beq_BR12 :
    let t := after (code [0xF0, 0x10] { base with pc := 0xFFF8, p := { base.p with z := true } })
    (t.pc, status t, t.cyclesOut) = (0x000A, 0x22, some 4) := by decide

/-- BR11: `BNE` at `$02FE`, offset -1: base `$0300`, target `$02FF`, cross, 4 -/
theorem test_bne_BR11 :
    let t := after (code [0xD0, 0xFF] { base with pc := 0x02FE })
    (t.pc, status t, t.cyclesOut) = (0x02FF, 0x20, some 4) := by decide

/-- BR1: `BNE`: not taken, 2 -/
theorem test_bne_BR1 :
    let t := after (code [0xD0, 0x03] { base with p := { base.p with z := true } })
    (t.pc, status t, t.cyclesOut) = (0x0202, 0x22, some 2) := by decide

/-- BR6: `BMI $0200`: branch to itself, 3 -/
theorem test_bmi_BR6 :
    let t := after (code [0x30, 0xFE] { base with p := { base.p with n := true } })
    (t.pc, status t, t.cyclesOut) = (0x0200, 0xA0, some 3) := by decide

/-- BR7: `BPL`: `$0202-4=$01FE`, cross, 4 -/
theorem test_bpl_BR7 :
    let t := after (code [0x10, 0xFC] base)
    (t.pc, status t, t.cyclesOut) = (0x01FE, 0x20, some 4) := by decide

/-- BR8: `BVC`: `$02F2+$10=$0302`, cross, 4 -/
theorem test_bvc_BR8 :
    let t := after (code [0x50, 0x10] { base with pc := 0x02F0 })
    (t.pc, status t, t.cyclesOut) = (0x0302, 0x20, some 4) := by decide

/-- BR9: `BVS`: not taken although the target would cross: 2 -/
theorem test_bvs_BR9 :
    let t := after (code [0x70, 0x10] { base with pc := 0x02F0 })
    (t.pc, status t, t.cyclesOut) = (0x02F2, 0x20, some 2) := by decide

/-- BR17: `BVS`: taken -/
theorem test_bvs_BR17 :
    let t := after (code [0x70, 0x05] { base with p := { base.p with v := true } })
    (t.pc, status t, t.cyclesOut) = (0x0207, 0x60, some 3) := by decide

/-- JP1: `JMP $1234` -/
theorem test_jmp_JP1 :
    let t := after (code [0x4C, 0x34, 0x12] base)
    (t.pc, status t, t.cyclesOut) = (0x1234, 0x20, some 3) := by decide

/-- JP3: `JMP ($12FF)`: the source's test; high byte from `$1200` -/
theorem test_jmp_JP3 :
    let t := after (code [0x6C, 0xFF, 0x12] (put [(0x1200, 0x56), (0x12FF, 0x34), (0x1300, 0x78)] base))
    (t.pc, status t, t.cyclesOut) = (0x5634, 0x20, some 5) := by decide

/-- JP5: `JSR`: `SP` wraps between the two pushes: `$0100`, then `$01FF` -/
theorem test_jsr_JP5 :
    let t := after (code [0x20, 0x00, 0x30] { base with sp := 0x00 })
    (t.sp, t.pc, t.load 0x0100, t.load 0x01FF) = (0xFE, 0x3000, 0x02, 0x02) ∧ (status t, t.cyclesOut) = (0x20, some 6) := by decide

/-- JP8: `RTS` with `SP=$FF`: reads `$0100`, `$0101` -/
theorem test_rts_JP8 :
    let t := after (code [0x60] (put [(0x0100, 0x10), (0x0101, 0x20)] { base with sp := 0xFF }))
    (t.sp, t.pc, status t, t.cyclesOut) = (0x01, 0x2011, 0x20, some 6) := by decide

/-- JP9: `RTI`: status `$F3`: bits 4, 5 ignored, `I` becomes 0; no +1 on `PC` -/
theorem test_rti_JP9 :
    let t := after (code [0x40] (put [(0x01FB, 0xF3), (0x01FC, 0x34), (0x01FD, 0x12)] { base with sp := 0xFA, pc := 0xE000, p := { base.p with i := true } }))
    (t.sp, t.pc, status t, t.cyclesOut) = (0xFD, 0x1234, 0xE3, some 6) := by decide

/-- JP11: `RTI` restoring `I=0` with `irq=1`: next operation is the IRQ sequence -/
theorem test_rti_JP11 :
    let t := after (code [0x40] (put [(0x01FB, 0x00), (0x01FC, 0x00), (0x01FD, 0x02)] { base with sp := 0xFA, pc := 0xE000, p := { base.p with i := true }, calls := [.step true false] }))
    (t.sp, t.pc, status t, t.op, t.cyclesOut) = (0xFD, 0x0200, 0x20, .irqSeq, some 6) := by decide

/-- ST2: `PHA` at `SP=$00`: writes `$0100`, wraps to `$FF` -/
theorem test_pha_ST2 :
    let t := after (code [0x48] { base with a := 0x42, sp := 0x00 })
    (t.sp, t.load 0x0100, status t, t.cyclesOut) = (0xFF, 0x42, 0x20, some 3) := by decide

/-- ST4: `PLA` at `SP=$FF`: wraps to `$00`, reads `$0100` -/
theorem test_pla_ST4 :
    let t := after (code [0x68] (put [(0x0100, 0x80)] { base with sp := 0xFF }))
    (t.a, t.sp, status t, t.cyclesOut) = (0x80, 0x00, 0xA0, some 4) := by decide

/-- ST5: `PHP`: pushes `$B5`; bits 4 and 5 set in the byte -/
theorem test_php_ST5 :
    let t := after (code [0x08] { base with p := { base.p with n := true, i := true, c := true } })
    (t.sp, t.load 0x01FD, status t, t.cyclesOut) = (0xFC, 0xB5, 0xA5, some 3) := by decide

/-- ST7: `PLP` of `$FF`: six flags set; `B` stays 0 -/
theorem test_plp_ST7 :
    let t := after (code [0x28] (put [(0x01FD, 0xFF)] { base with sp := 0xFC }))
    (t.sp, status t, t.cyclesOut) = (0xFD, 0xEF, some 4) := by decide

/-- ST9: `PLP` clearing `I` with `irq=1`: IRQ sequence is next -/
theorem test_plp_ST9 :
    let t := after (code [0x28] (put [(0x01FD, 0x00)] { base with sp := 0xFC, p := { base.p with i := true }, calls := [.step true false] }))
    (t.sp, status t, t.op, t.cyclesOut) = (0xFD, 0x20, .irqSeq, some 4) := by decide

/-- FL1: `CLC` -/
theorem test_clc_FL1 :
    let t := after (code [0x18] { base with p := { base.p with c := true } })
    (status t, t.cyclesOut) = (0x20, some 2) := by decide

/-- FL3: `SEC` -/
theorem test_sec_FL3 :
    let t := after (code [0x38] base)
    (status t, t.cyclesOut) = (0x21, some 2) := by decide

/-- FL6: `CLI` with `irq=1`: IRQ sequence is next, no delay -/
theorem test_cli_FL6 :
    let t := after (code [0x58] { base with p := { base.p with i := true }, calls := [.step true false] })
    (status t, t.op, t.cyclesOut) = (0x20, .irqSeq, some 2) := by decide

/-- FL8: `SEI` with `irq=1`: the check sees `I=1`; no interrupt -/
theorem test_sei_FL8 :
    let t := after (code [0x78] { base with calls := [.step true false] })
    (status t, t.cyclesOut) = (0x24, some 2) := by decide

/-- FL9: `CLD` -/
theorem test_cld_FL9 :
    let t := after (code [0xD8] { base with p := { base.p with d := true } })
    (status t, t.cyclesOut) = (0x20, some 2) := by decide

/-- FL10: `SED` -/
theorem test_sed_FL10 :
    let t := after (code [0xF8] base)
    (status t, t.cyclesOut) = (0x28, some 2) := by decide

/-- FL11: `CLV` -/
theorem test_clv_FL11 :
    let t := after (code [0xB8] { base with p := { base.p with v := true } })
    (status t, t.cyclesOut) = (0x20, some 2) := by decide

/-- FL12: `NOP` -/
theorem test_nop_FL12 :
    let t := after (code [0xEA] { base with a := 0x01, x := 0x02, y := 0x03, p := { base.p with n := true, c := true } })
    (t.pc, status t, t.cyclesOut) = (0x0201, 0xA1, some 2) := by decide

/-- FL14: `BRK` at `$02FF`: return `$0301`; `SP` wraps `$01,$00,$FF`; `D` kept -/
theorem test_brk_FL14 :
    let t := after (code [0x00] (put [(0xFFFE, 0x00), (0xFFFF, 0xE0)] { base with sp := 0x01, pc := 0x02FF, p := { base.p with d := true } }))
    (t.sp, t.pc, t.load 0x0100, t.load 0x0101) = (0xFE, 0xE000, 0x01, 0x03) ∧ (t.load 0x01FF, status t, t.cyclesOut) = (0x38, 0x2C, some 7) := by decide

/-- FL17: `???` (`$80`): the next byte is not an operand; `PC` advances by 1 -/
theorem test_undoc_FL17 :
    let t := after (code [0x80, 0xFF] base)
    (t.pc, status t, t.diag, t.cyclesOut) = (0x0201, 0x20, some (.unknownOpcode 0x80 0x0200), some 1) := by decide

/-- FL18: `???` at `$FFFF`: `PC` wraps to `$0000` -/
theorem test_undoc_FL18 :
    let t := after (code [0xFF] { base with pc := 0xFFFF })
    (t.pc, status t, t.diag, t.cyclesOut) = (0x0000, 0x20, some (.unknownOpcode 0xFF 0xFFFF), some 1) := by decide

/-! Placing an instruction and running it from reset. -/

/-- `withFetchWord` at reset: the next step runs exactly that instruction (LDX #$FF, JSR $FD02, a sentinel). -/
theorem test_withFetchWord_from_reset :
    (after (State.reset.withFetchWord 16 0xFFA2)).x = 0xFF ∧ (after (State.reset.withFetchWord 24 0xFD0220)).pc = 0xFD02 ∧
      (after (State.reset.withFetchWord 8 0x02)).diag = some (.unknownOpcode 0x02 0x0000) := by decide

/-- The driver's calls as a program comes to run (log 9): the host's writes, the reset tick, the reset wait, one instruction. -/
theorem test_program_from_reset :
    let s := { State.reset with calls := [.write 0xFFFD 0x10, .write 0x1000 0xE8, .tick true false false,
      .step false false, .step false false] }
    let t := after (after (after (after (after s))))
    (t.pc, t.x, t.cyclesOut) = (0x1001, 1, some 2) := by decide

/-- Reset from $FCE2 bytes E2 FC at $FFFC (95_test_vectors.md 1.3): the vector is little-endian, SP = $FD, I = 1. -/
theorem test_reset_tick :
    let t := after (put [(0xFFFC, 0xE2), (0xFFFD, 0xFC)] { base with calls := [.tick true true true] })
    (t.pc, t.sp, t.p.i, t.cyclesRemaining) = (0xFCE2, 0xFD, true, 7) := by decide

/-- Memory in canonical form: writing what an unlisted address reads as removes the entry. -/
theorem test_memory_canonical :
    (put [(3, 5), (1, 2), (0xFFFF, 7), (3, 0)] base).mem = [(1, 2), (65535, 7)] := by decide

/-! Witnesses: for every statement with hypotheses, inputs that meet all of them, one per clause. -/

theorem witness_DecodeEncodeRoundTrip :
    Instr.wf (.jmpInd 0x12FF) = true ∧ Instr.wf (.undoc 0x80) = true := by decide

theorem witness_DecodedBytesAreReencoded : decode [0x20, 0x02, 0xFD, 0x99] = .ok (.jsr 0xFD02, [0x99]) := rfl

/-- One opcode byte of each mode at `PC`, the absolute one at the end of memory; an immediate form; an effective address. -/
theorem witness_DirectModesResolve :
    let mode := fun s : State => (descriptor (s.load s.pc)).mode
    mode (code [0xA9, 0xFF] base) = .immediate ∧ mode (code [0xA5, 0xFF] base) = .zeroPage ∧
      mode (code [0xB5, 0xFF] base) = .zeroPageX ∧ mode (code [0xB6, 0xFF] base) = .zeroPageY ∧
      mode (code [0x4C, 0x34, 0x12] { base with pc := 0xFFFF }) = .absolute ∧
      Instr.operand (.cmpImm 0xFF) = .imm 0xFF ∧ effAddr (.zpx 0xFF) { base with x := 1 } = some 0 := by decide

/-- A branch target below address 0, and an indexed address past the last. -/
theorem witness_IndexedAndPointerModesResolve :
    effAddr (.rel 0x80) { base with pc := 0 } = some 0xFF82 ∧ effAddr (.aby 0xFFFF) { base with y := 1 } = some 0 := by
  decide

/-- Pointers at, before and after the end of a page, and at the end of memory. -/
theorem witness_JmpLoadsTheProgramCounter :
    (0x12FF : Word).toNat % 256 = 255 ∧ (0xFFFF : Word).toNat % 256 = 255 ∧ (0x12FE : Word).toNat % 256 ≠ 255 ∧
      (0x1300 : Word).toNat % 256 ≠ 255 := by decide

theorem witness_LoadsSetTheRegisterAndZN :
    Instr.mnemonic (.ldaIzy 0xFF) = .LDA ∧ Instr.mnemonic (.ldxZpy 0xF0) = .LDX ∧ Instr.mnemonic (.ldyAbx 0) = .LDY := by
  decide

theorem witness_StoresWriteOneByteAndNothingElse :
    Instr.mnemonic (.staIzx 0xFF) = .STA ∧ Instr.mnemonic (.stxZpy 0xF0) = .STX ∧ Instr.mnemonic (.styAbs 0) = .STY := by
  decide

theorem witness_MemoryIncrementsAndDecrementsWrap :
    Instr.mnemonic (.incZpx 0xFF) = .INC ∧ Instr.mnemonic (.decAbx 0xFFFF) = .DEC := by decide

theorem witness_BinaryAdcAddsWithCarry : Instr.mnemonic (.adcImm 0xFF) = .ADC ∧ base.p.d = false := by decide

theorem witness_BinarySbcSubtractsWithBorrow : Instr.mnemonic (.sbcAby 0xFFFF) = .SBC ∧ base.p.d = false := by decide

/-- `base` with `D` set and an accumulator. -/
def decimal (a : Byte) : State := { base with a := a, p := { base.p with d := true } }

theorem witness_DecimalAdcIsBcdAddition :
    Instr.mnemonic (.adcImm 0x99) = .ADC ∧ (decimal 0x99).p.d = true ∧ BcdValid (decimal 0x99).a ∧
      BcdValid (operandValue (Instr.operand (.adcImm 0x99)) (decimal 0x99)) := by decide

theorem witness_DecimalSbcIsBcdSubtraction :
    Instr.mnemonic (.sbcImm 0x99) = .SBC ∧ (decimal 0x00).p.d = true ∧ BcdValid (decimal 0x00).a ∧
      BcdValid (operandValue (Instr.operand (.sbcImm 0x99)) (decimal 0x00)) := by decide

theorem witness_LogicCombinesWithTheAccumulator :
    Instr.mnemonic (.andIzx 0xFF) = .AND ∧ Instr.mnemonic (.oraImm 0) = .ORA ∧ Instr.mnemonic (.eorAbx 1) = .EOR := by
  decide

theorem witness_BitTestsMemoryAgainstAccumulator :
    Instr.mnemonic (.bitZp 0x10) = .BIT ∧ Instr.mnemonic (.bitAbs 0x3000) = .BIT := by decide

theorem witness_ShiftsAndRotatesMoveOnePosition :
    Instr.mnemonic .aslAcc = .ASL ∧ Instr.mnemonic (.aslZp 0) = .ASL ∧ Instr.mnemonic (.lsrZpx 0xFF) = .LSR ∧
      Instr.mnemonic (.rolAbs 0) = .ROL ∧ Instr.mnemonic .rorAcc = .ROR := by decide

theorem witness_ComparesOrderUnsigned :
    Instr.mnemonic (.cmpIzy 0xFF) = .CMP ∧ Instr.mnemonic (.cpxImm 0) = .CPX ∧ Instr.mnemonic (.cpyAbs 1) = .CPY := by
  decide

theorem witness_BranchesGoToTheTargetWhenTaken :
    Instr.operand (.bne 0x80) = .rel 0x80 ∧ branchCondition (Instr.mnemonic (.bne 0x80)) base.p = some true ∧
      Instr.operand (.bvs 0x7F) = .rel 0x7F ∧ branchCondition (Instr.mnemonic (.bvs 0x7F)) base.p = some false := by decide

theorem witness_SentinelIsAOneByteFlaggedNoOp :
    (0x02 : Byte) ∈ undocumentedBytes ∧ (0xFF : Byte) ∈ undocumentedBytes ∧
      (code [0xFF] { base with pc := 0xFFFF }).load 0xFFFF = 0xFF ∧ base.op = .instr := by decide

/-- An instruction outside every row of the flag table, one outside the rows of all flags but `B`, and one in `B`'s row. -/
theorem witness_FlagsAreWrittenOnlyAsListed :
    Instr.mnemonic (.staZp 1) = .STA ∧ Instr.mnemonic .nop = .NOP ∧ Instr.mnemonic .brk ∈ [Mnemonic.PLP, .RTI, .BRK] ∧
      Mnemonic.STA ∉ [Mnemonic.PLP, .RTI, .BRK] ∧
      Mnemonic.STA ∉ [Mnemonic.ADC, .SBC, .CMP, .CPX, .CPY, .ASL, .LSR, .ROL, .ROR, .CLC, .SEC, .PLP, .RTI] ∧
      Mnemonic.STA ∉ [Mnemonic.ADC, .SBC, .BIT, .CLV, .PLP, .RTI] ∧ Mnemonic.STA ∉ [Mnemonic.CLI, .SEI, .PLP, .RTI, .BRK] ∧
      Mnemonic.STA ∉ [Mnemonic.CLD, .SED, .PLP, .RTI] ∧
      Mnemonic.STA ∉ [Mnemonic.LDA, .LDX, .LDY, .TAX, .TAY, .TXA, .TYA, .TSX, .PLA, .INC, .DEC, .INX, .INY, .DEX, .DEY,
        .AND, .ORA, .EOR, .ADC, .SBC, .CMP, .CPX, .CPY, .ASL, .LSR, .ROL, .ROR, .BIT, .PLP, .RTI] := by decide

/-- `NOP` is in none of the lists of writers; `ASL` of the accumulator keeps memory, of memory keeps the accumulator. -/
theorem witness_RegistersAndMemoryAreWrittenOnlyAsListed :
    Mnemonic.NOP ∉ [Mnemonic.LDX, .TAX, .TSX, .INX, .DEX] ∧ Mnemonic.NOP ∉ [Mnemonic.LDY, .TAY, .INY, .DEY] ∧
      Mnemonic.NOP ∉ [Mnemonic.PHA, .PHP, .PLA, .PLP, .JSR, .RTS, .RTI, .BRK, .TXS] ∧
      Instr.mnemonic (.aslZp 1) ∉ [Mnemonic.LDA, .PLA, .TXA, .TYA, .ADC, .SBC, .AND, .ORA, .EOR] ∧
      ¬ (Instr.mnemonic (.aslZp 1) ∈ [Mnemonic.ASL, .LSR, .ROL, .ROR] ∧ Instr.operand (.aslZp 1) = .implied) ∧
      Instr.mnemonic .aslAcc ∉ [Mnemonic.STA, .STX, .STY, .INC, .DEC, .PHA, .PHP, .JSR, .BRK] ∧
      ¬ (Instr.mnemonic .aslAcc ∈ [Mnemonic.ASL, .LSR, .ROL, .ROR] ∧ Instr.operand .aslAcc ≠ .implied) := by decide

theorem witness_DecimalFlagIsReadOnlyByAdcSbcAndPushes :
    Instr.mnemonic .sed ∈ [Mnemonic.PLP, .RTI, .CLD, .SED] ∧
      Instr.mnemonic (.cmpImm 5) ∉ [Mnemonic.ADC, .SBC, .PHP, .BRK, .PLP, .RTI, .CLD, .SED] := by decide

/-- Memory with one more byte, which `LDA $10` does not read. -/
theorem witness_InstructionsDependOnlyOnTheBytesTheyRead :
    instrAccesses (.ldaZp 0x10) (put [(0x10, 7)] base) = [.read 0x10] ∧
      ({ put [(0x10, 7)] base with mem := [(0x10, 7), (0x20, 9)] } : State).load 0x10 = (put [(0x10, 7)] base).load 0x10 ∧
      ({ put [(0x10, 7)] base with mem := [(0x10, 7), (0x20, 9)] } : State).mem ≠ (put [(0x10, 7)] base).mem := by decide

/-- Memory with one more byte, beyond the one-byte instruction at `PC`. -/
theorem witness_InstructionsDependOnlyOnTheBytesTheyRead_fetch :
    let s := code [0xE8] base
    fetchAccesses s = [.read 0x0200] ∧ (descriptor (s.load s.pc)).mode = .implied ∧
      ({ s with mem := [(0x0200, 0xE8), (0x0201, 9)] } : State).load 0x0200 = s.load 0x0200 ∧
      ({ s with mem := [(0x0200, 0xE8), (0x0201, 9)] } : State).mem ≠ s.mem := by decide

/-- An instruction across the end of the address space, at an operation boundary, a step queued. -/
theorem witness_StepRunsTheDecodedInstruction :
    let s := code [0x4C, 0x34, 0x12] { base with pc := 0xFFFF }
    s.op = .instr ∧ s.cyclesRemaining = 0 ∧ s.halted = false ∧ nextCall s = .step false false ∧
      (decode [s.load s.pc, s.load (s.pc + 1), s.load (s.pc + 2)]).toOption = some (.jmpAbs 0x1234, []) := by decide

theorem witness_LastTickCommitsTheDecodedInstruction :
    let s := code [0xE8] { base with cyclesRemaining := 1 }
    s.op = .instr ∧ s.cyclesRemaining = 1 ∧ s.halted = false ∧
      (decode [s.load s.pc, s.load (s.pc + 1), s.load (s.pc + 2)]).toOption = some (.inx, [0, 0]) := by decide

/-- A step queued one tick into an operation, a step queued at a boundary, and no call queued. -/
theorem witness_StepAnswersUnlessCalledMidOperation :
    nextCall { base with cyclesRemaining := 1 } = .step false false ∧ stepReady { base with cyclesRemaining := 1 } = false ∧
      nextCall base = .step false false ∧ stepReady base = true ∧
      nextCall { base with calls := [.tick false true true], cyclesRemaining := 6 } = .tick false true true ∧
      ({ base with calls := [], cyclesRemaining := 6 } : State).calls = [] := by decide

/-- Two ticks left; and the first tick of the cheapest operation that has another. -/
theorem witness_CountdownTickOnlySamplesAndCounts :
    base.halted = false ∧ 1 < ({ base with cyclesRemaining := 2 } : State).cyclesRemaining ∧
      (code [0xE8] base).halted = false ∧ (code [0xE8] base).cyclesRemaining = 0 ∧ opCost (code [0xE8] base) = 2 := by
  decide

/-- `base`, halted. -/
def haltedBase : State := { base with halted := true }

/-- A halted state at a boundary; calls other than a reset tick on it that answer; and a call on a state not halted. -/
theorem witness_HaltedIsTerminalUntilReset :
    haltedBase.halted = true ∧ stepReady haltedBase = true ∧
      (∀ irq nmi, Call.write 0 7 ≠ .tick true irq nmi) ∧ (∃ t, perform (.write 0 7) haltedBase = .next t) ∧
      (∀ irq nmi, Call.step true true ≠ .tick true irq nmi) ∧ (∃ t, perform (.step true true) haltedBase = .next t) ∧
      (∀ irq nmi, Call.tick false true true ≠ .tick true irq nmi) ∧
      (∃ t, perform (.tick false true true) haltedBase = .next t) ∧
      base.halted = false ∧ ∃ t, perform (.step false false) base = .next t :=
  ⟨rfl, rfl, by decide, ⟨_, rfl⟩, by decide, ⟨_, rfl⟩, by decide, ⟨_, rfl⟩, rfl, _, rfl⟩

/-- A host step of a halted core reports no cycles and leaves it halted (R247). -/
theorem test_step_halted :
    let t := after { haltedBase with calls := [.step true true] }
    (t.halted, t.cyclesOut, t.pc, t.nmiPending) = (true, some 0, haltedBase.pc, true) := by decide

/-- No input, six inputs and seven inputs. -/
theorem witness_ResetWaitLastsSevenTicks :
    ([] : List (Bool × Bool)).length ≤ 7 ∧ (List.replicate 6 (true, true)).length ≤ 7 ∧
      (List.replicate 7 (true, false)).length ≤ 7 := by decide

theorem witness_InterruptCheckAfterAnInstruction : base.op = .instr ∧ base.cyclesRemaining = 0 ∧ base.halted = false := by
  decide

theorem witness_InterruptSequencesEnterTheirHandlers :
    base.cyclesRemaining = 0 ∧ base.halted = false ∧ ({ base with op := .irqSeq } : State).op = .irqSeq ∧
      ({ base with op := .nmiSeq } : State).op = .nmiSeq := by decide

/-- The two sequences at a boundary, and the reset wait as reset leaves it; one input and seven. -/
theorem witness_NonInstructionOperationsTakeSevenCycles :
    (let s : State := { base with op := .irqSeq }
     s.op = .irqSeq ∧ s.cyclesRemaining = 0 ∧ s.halted = false) ∧
      (let s : State := { base with op := .nmiSeq }
       s.op = .nmiSeq ∧ s.cyclesRemaining = 0 ∧ s.halted = false) ∧
      State.reset.op = .resetWait ∧ State.reset.cyclesRemaining = 7 ∧ State.reset.halted = false ∧
      1 ≤ [(true, true)].length ∧ (List.replicate 7 (true, false)).length ≤ 7 := by decide

/-- A branch taken across a page, an indexed read across a page, and a sentinel. -/
theorem witness_InstructionCostsFollowTheClassTable :
    base.op = .instr ∧ opCost (code [0xD0, 0x80] base) = 4 ∧ opCost (code [0xBD, 0xFF, 0x12] { base with x := 1 }) = 5 ∧
      opCost (code [0x02] base) = 1 := by decide

/-- At an instruction, and in the reset wait before its first tick. -/
theorem witness_TickModeAndStepModeAgree :
    stepReady base = true ∧ base.halted = false ∧ stepReady State.reset = true ∧ State.reset.halted = false := by decide

/-- A state with the invariant, an IRQ sequence under way with listed memory, and the state a tick leaves. -/
def midIrq : State :=
  { put [(0x10, 7), (0xFFFE, 1)] base with op := .irqSeq, cyclesRemaining := 3, calls := [.tick false true false] }

theorem witness_InvariantIsKeptByEveryStep : Inv midIrq ∧ step midIrq = .next (after midIrq) :=
  ⟨⟨by decide, by decide, by decide, by decide, by decide⟩, rfl⟩

/-- A device at $D000 to $D3FF: its first and last address, and the addresses just outside. -/
def device : DeviceEntry := { first := 0xD000, last := 0xD3FF, read := fun _ _ => 0x55, write := fun m _ _ => m }

theorem witness_DeviceSeamAsksTheFirstMatch :
    (device.first.toNat ≤ (0xD000 : Word).toNat ∧ (0xD000 : Word).toNat ≤ device.last.toNat) ∧
      (device.first.toNat ≤ (0xD3FF : Word).toNat ∧ (0xD3FF : Word).toNat ≤ device.last.toNat) ∧
      ¬ (device.first.toNat ≤ (0xCFFF : Word).toNat ∧ (0xCFFF : Word).toNat ≤ device.last.toNat) ∧
      ¬ (device.first.toNat ≤ (0xD400 : Word).toNat ∧ (0xD400 : Word).toNat ≤ device.last.toNat) := by decide

/-- The device answers its own addresses and plain RAM the others. -/
theorem test_device_seam :
    busReadWith [device] [(0xD3FF, 1), (0xD400, 2)] 0xD3FF = 0x55 ∧
      busReadWith [device] [(0xD3FF, 1), (0xD400, 2)] 0xD400 = 2 := by decide

/-- Parameters other than the machine's own: memory that holds its low address byte, the device above, and decimal functions
that answer the operand. -/
def otherParams : Params :=
  let f : DecimalFunction := fun _ m c => { value := m, c := !c, z := true, v := true, n := false }
  { Config.params with memPowerOn := fun a => lo a, deviceMap := [device], decimalAdc := f, decimalSbc := f }

/-- The next state of an instruction under other parameters. -/
def under (P : Params) (i : Instr) (s : State) : State :=
  match execWith P i s with
  | .next t => t
  | .fault _ | .refused _ => s

/-- Every parameter reaches the instructions: power-on memory, the device, and the decimal functions (R7). -/
theorem test_other_parameters :
    (under otherParams (.ldaAbs 0x3042) base).a = 0x42 ∧ (under otherParams (.ldaAbs 0xD000) base).a = 0x55 ∧
      (under otherParams (.adcImm 0x77) (decimal 0x11)).a = 0x77 ∧
      (under otherParams (.sbcZp 0x10) (decimal 0x11)).p.c = !(decimal 0x11).p.c ∧
      (resetOp false (powerOn otherParams) otherParams).pc = 0xFDFC := by decide

theorem witness_ResetStateIsAResetOfPowerOn : Config.params.deviceMap = [] := rfl

theorem witness_HostWritesOnlyTheByteItNames :
    nextCall { base with cyclesRemaining := 3, calls := [.write 0xFFFF 0x01] } = .write 0xFFFF 0x01 := by decide

end Sys2Proof.Tests
end

/-! PROOFS. The direct addressing modes (30_encoding.md R106 to R110): operand bytes as numbers, the resolver's answers, and what
an instruction in Immediate mode does with memory. -/

namespace Sys2Proof.Machine

/-- A word is its low byte plus 256 times its high byte (00_scope.md R8). -/
theorem toNat_wordOf (h l : Byte) : (wordOf h l).toNat = l.toNat + 256 * h.toNat := by
  have hl : l.toNat < 2 ^ 8 := l.isLt
  rw [wordOf, BitVec.toNat_append, ← Nat.shiftLeft_add_eq_or_of_lt hl, Nat.shiftLeft_eq]
  omega

/-- Zero extension keeps the number (00_scope.md R9). -/
theorem zext16_eq_ofNat (b : Byte) : zext16 b = BitVec.ofNat 16 b.toNat := (BitVec.ofNat_toNat 16 b).symm

/-- A zero-page address plus an index wraps inside the zero page (R108, R109). -/
theorem zext16_add (z k : Byte) : zext16 (z + k) = BitVec.ofNat 16 ((z.toNat + k.toNat) % 256) := by
  rw [zext16_eq_ofNat, BitVec.toNat_add]

/-- The resolver answers an address exactly where the mode has an effective address (R13). -/
theorem resolve_fst_eq_addr_iff (o : Operand) (s : State) (P : Params) (ea : Word) :
    (resolve o s P).1 = .addr ea ↔ effAddr o s P = some ea := by
  unfold effAddr
  cases (resolve o s P).1 <;> simp

/-- The mnemonics that have an Immediate form (R118). -/
def immediateMnemonics : List Mnemonic := [.LDA, .LDX, .LDY, .ADC, .SBC, .AND, .ORA, .EOR, .CMP, .CPX, .CPY]

/-- Only those mnemonics occur with an immediate operand. -/
theorem mnemonic_mem_immediateMnemonics {i : Instr} {v : Byte} (h : i.operand = .imm v) :
    i.mnemonic ∈ immediateMnemonics := by
  cases i <;> cases h <;> simp [Instr.mnemonic, immediateMnemonics]

/-- With an immediate operand those mnemonics neither read nor write memory (R106): replacing memory commutes with the effect. -/
theorem effect_imm_mem {m : Mnemonic} (hm : m ∈ immediateMnemonics) (v opc : Byte) (s : State) (P : Params) (mem : Memory) :
    (effect m (.imm v) opc s P).mem = s.mem ∧
      effect m (.imm v) opc { s with mem := mem } P = { effect m (.imm v) opc s P with mem := mem } := by
  simp only [immediateMnemonics, List.mem_cons, List.not_mem_nil, or_false] at hm
  rcases hm with rfl | rfl | rfl | rfl | rfl | rfl | rfl | rfl | rfl | rfl | rfl <;> exact ⟨rfl, rfl⟩

/-- The operand fetched, by the mode of the opcode byte at `PC`. -/
theorem fetch_operand_of_mode {s : State} {m : Mode} (h : (descriptor (s.load s.pc)).mode = m) :
    (fetch s).operand = operandOf m (s.load (s.pc + 1)) (s.load (s.pc + 2)) := by
  rw [fetch_operand, h]

/-- Settles O6: the operand is `operandOf` the mode at `PC`, the wrapped sums are `zext16_add`, and replacing memory commutes with
the effect of an Immediate form. -/
theorem directModesResolve : Obligations.DirectModesResolve := by
  intro s mode o b1 b2
  refine ⟨fetch_operand_of_mode, fetch_operand_of_mode, fetch_operand_of_mode, fetch_operand_of_mode, ?_, ?_,
    fun o ea => resolve_fst_eq_addr_iff o s _ ea, fun o ea => operandValue_of_effAddr, ?_⟩
  · exact fun h => ⟨wordOf b2 b1, toNat_wordOf b2 b1, fetch_operand_of_mode h⟩
  · intro v z w
    refine ⟨rfl, ?_, ?_, ?_, rfl, rfl, rfl⟩
    · rw [resolve, zext16_eq_ofNat]
    · rw [resolve, zext16_add]
    · rw [resolve, zext16_add]
  · intro i v mem hi
    obtain ⟨kept, commutes⟩ := effect_imm_mem (mnemonic_mem_immediateMnemonics hi) v i.opcode s Config.params mem
    exact ⟨_, exec_eq_effect i s, by rw [hi, kept], by rw [exec_eq_effect, hi, commutes]⟩

end Sys2Proof.Machine

/-! PROOFS. JMP (70_reset_and_hazards.md R286): the halves of a word as numbers, and the address the high byte of a pointer is
read from. -/

namespace Sys2Proof.Machine

/-- The high byte of a word as a number (00_scope.md R8). -/
theorem toNat_hi (w : Word) : (hi w).toNat = w.toNat / 256 := by
  have hw : w.toNat < 65536 := w.isLt
  rw [hi, BitVec.extractLsb'_toNat, Nat.shiftRight_eq_div_pow]
  omega

/-- The low byte of a word as a number (00_scope.md R8). -/
theorem toNat_lo (w : Word) : (lo w).toNat = w.toNat % 256 := BitVec.toNat_setWidth 8 w

/-- The address after `w` in the page of `w`, as a number (20_memory.md R78). -/
theorem toNat_nextInPage (w : Word) :
    (wordOf (hi w) (lo w + 1)).toNat = w.toNat / 256 * 256 + (w.toNat + 1) % 256 := by
  have hone : (1 : Byte).toNat = 1 := rfl
  rw [toNat_wordOf, BitVec.toNat_add, toNat_hi, toNat_lo, hone]
  omega

theorem nextInPage_eq_ofNat (w : Word) :
    wordOf (hi w) (lo w + 1) = BitVec.ofNat 16 (w.toNat / 256 * 256 + (w.toNat + 1) % 256) := by
  rw [← toNat_nextInPage, BitVec.ofNat_toNat, BitVec.setWidth_eq]

/-- From the last byte of a page the next address in the page is its first byte (R286). -/
theorem nextInPage_of_pageEnd {w : Word} (h : w.toNat % 256 = 255) : wordOf (hi w) (lo w + 1) = w - 255 := by
  have hn := toNat_nextInPage w
  bv_omega

/-- From every other byte of a page it is the next address. -/
theorem nextInPage_of_not_pageEnd {w : Word} (h : w.toNat % 256 ≠ 255) : wordOf (hi w) (lo w + 1) = w + 1 := by
  have hn := toNat_nextInPage w
  bv_omega

/-- The two next addresses differ exactly at the last byte of a page. -/
theorem nextInPage_ne_succ_iff (w : Word) : wordOf (hi w) (lo w + 1) ≠ w + 1 ↔ w.toNat % 256 = 255 := by
  constructor
  · exact fun hne => by_contra fun h => hne (nextInPage_of_not_pageEnd h)
  · intro h
    rw [nextInPage_of_pageEnd h]
    bv_omega

/-- The last bytes of the pages, one a page. -/
theorem toNat_mod_eq_255_iff (w : Word) : w.toNat % 256 = 255 ↔ ∃ page : Byte, w = wordOf page 0xFF := by
  constructor
  · intro h
    have hlo : lo w = 0xFF := BitVec.eq_of_toNat_eq ((toNat_lo w).trans h)
    exact ⟨hi w, by rw [← hlo, wordOf_hi_lo]⟩
  · rintro ⟨page, rfl⟩
    rw [← toNat_lo, lo_wordOf]
    rfl

/-- The word `Read16Bug` reads, as a number (R78). -/
theorem toNat_read16Bug (s : State) (w : Word) :
    (s.read16Bug w).toNat = (s.load w).toNat + 256 * (s.load (wordOf (hi w) (lo w + 1))).toNat :=
  toNat_wordOf _ _

/-- Away from the end of a page `Read16Bug` is the plain 16-bit read (R76, R78). -/
theorem read16Bug_of_not_pageEnd (s : State) {w : Word} (h : w.toNat % 256 ≠ 255) : s.read16Bug w = s.read16 w := by
  rw [State.read16Bug, nextInPage_of_not_pageEnd h, State.read16]

/-- JMP Absolute loads `PC` with its operand (R201). -/
theorem exec_jmpAbs (w : Word) (s : State) : exec (.jmpAbs w) s = .next { s with pc := w } := exec_eq_effect _ s

/-- JMP Indirect loads `PC` with the word `Read16Bug` reads (R201, R78). -/
theorem exec_jmpInd (w : Word) (s : State) : exec (.jmpInd w) s = .next { s with pc := s.read16Bug w } :=
  exec_eq_effect _ s

/-- Settles O23: the target is what `Read16Bug` reads, and its high byte is taken from `w - 255` at the end of a page and from
`w + 1` elsewhere. -/
theorem jmpLoadsTheProgramCounter : Obligations.JmpLoadsTheProgramCounter := by
  refine ⟨fun s w => ⟨exec_jmpAbs w s, s.read16Bug w, exec_jmpInd w s, ?_, fun h => ?_, fun h => ⟨?_, ?_⟩⟩,
    fun w => ⟨?_, toNat_mod_eq_255_iff w⟩⟩
  · rw [toNat_read16Bug, nextInPage_eq_ofNat]
  · rw [toNat_read16Bug, nextInPage_of_pageEnd h]
  · exact read16Bug_of_not_pageEnd s h
  · rw [toNat_read16Bug, nextInPage_of_not_pageEnd h]
  · rw [← nextInPage_eq_ofNat]
    exact nextInPage_ne_succ_iff w

end Sys2Proof.Machine

/-! PROOFS. The operations that are no instructions (70_reset_and_hazards.md R302): what one tick of such an operation leaves,
and that their seven ticks run out one by one. -/

namespace Sys2Proof.Machine

/-- The ticks an operation has left once its cost is loaded (60_exceptions.md R244). -/
@[simp] theorem loadCost_cyclesRemaining (s : State) (P : Params := Config.params) :
    (loadCost s P).cyclesRemaining = if s.cyclesRemaining = 0 then opCost s P else s.cyclesRemaining := by
  unfold loadCost
  split <;> rfl

@[simp] theorem loadCost_op (s : State) (P : Params := Config.params) : (loadCost s P).op = s.op := by
  unfold loadCost
  split <;> rfl

@[simp] theorem loadCost_halted (s : State) (P : Params := Config.params) : (loadCost s P).halted = s.halted := by
  unfold loadCost
  split <;> rfl

/-- Loading the cost changes nothing while an operation is under way. -/
theorem loadCost_of_under_way {s : State} (h : s.cyclesRemaining ≠ 0) (P : Params := Config.params) :
    loadCost s P = s := if_neg h

/-- Cost reads no input and no output (R244). -/
theorem opCost_sample_clearOutputs (irq nmi : Bool) (s : State) (P : Params := Config.params) :
    opCost (sample irq nmi (clearOutputs s)) P = opCost s P := rfl

/-- Every operation but an instruction costs seven cycles (R302). -/
theorem opCost_of_ne_instr {s : State} (h : s.op ≠ .instr) (P : Params := Config.params) : opCost s P = 7 := by
  unfold opCost
  cases hop : s.op
  case instr => exact absurd hop h
  all_goals rfl

/-- The commit of such an operation leaves the counter alone (R246). -/
theorem commitState_cyclesRemaining_of_ne_instr {s : State} (h : s.op ≠ .instr) :
    (commitState s).cyclesRemaining = s.cyclesRemaining := by
  unfold commitState
  cases hop : s.op
  case instr => exact absurd hop h
  all_goals simp [toInstr]

/-- One tick of an operation that is no instruction spends one of its ticks, and it stays under way unless that was the last. -/
theorem tick_of_ne_instr {s : State} (hop : s.op ≠ .instr) (hh : s.halted = false) (irq nmi : Bool) :
    ∃ t, tick false irq nmi s = .next t ∧ t.cyclesRemaining = (loadCost s).cyclesRemaining - 1 ∧
      (t.cyclesRemaining ≠ 0 → t.op = s.op ∧ t.halted = false) := by
  have hcount : (countDown (loadCost (sample irq nmi (clearOutputs s)))).cyclesRemaining =
      (loadCost s).cyclesRemaining - 1 := by
    simp only [countDown, loadCost_cyclesRemaining, opCost_sample_clearOutputs]
    rfl
  have hsame : (countDown (loadCost (sample irq nmi (clearOutputs s)))).op = s.op := loadCost_op _
  rcases tick_cases false irq nmi s with ⟨hr, -⟩ | ⟨-, hhalt, -⟩ | ⟨-, -, hzero, ht⟩ | ⟨-, -, -, ht⟩
  · cases hr
  · cases hh.symm.trans hhalt
  · have hdone := commitState_cyclesRemaining_of_ne_instr (hsame ▸ hop)
    exact ⟨_, ht, hdone.trans hcount, fun hne => absurd (hdone.trans hzero) hne⟩
  · exact ⟨_, ht, hcount, fun _ => ⟨hsame, (loadCost_halted _).trans hh⟩⟩

/-- The ticks after one that answers `t` are ticks from `t`. -/
theorem ticks_cons_of_tick {irq nmi : Bool} {s t : State} (h : tick false irq nmi s = .next t) (l : List (Bool × Bool)) :
    ticks ((irq, nmi) :: l) s = ticks l t := by
  rw [ticks, h]

/-- The ticks of such an operation run out one by one, whatever the inputs. -/
theorem ticks_of_ne_instr {inputs : List (Bool × Bool)} {s : State} (hop : s.op ≠ .instr) (hh : s.halted = false)
    (hpos : 1 ≤ inputs.length) (hle : inputs.length ≤ (loadCost s).cyclesRemaining) :
    ∃ t, ticks inputs s = .next t ∧ t.cyclesRemaining = (loadCost s).cyclesRemaining - inputs.length ∧
      (t.cyclesRemaining ≠ 0 → t.op = s.op) := by
  induction inputs generalizing s with
  | nil => simp at hpos
  | cons input rest ih =>
    obtain ⟨irq, nmi⟩ := input
    obtain ⟨t, ht, hleft, hway⟩ := tick_of_ne_instr hop hh irq nmi
    rw [List.length_cons] at hle
    by_cases hrest : rest = []
    · subst hrest
      exact ⟨t, ticks_cons_of_tick ht [], hleft, fun hne => (hway hne).1⟩
    · have hmore : 1 ≤ rest.length := List.length_pos_of_ne_nil hrest
      have hne : t.cyclesRemaining ≠ 0 := by omega
      have hload : (loadCost t).cyclesRemaining = t.cyclesRemaining := by rw [loadCost_of_under_way hne]
      obtain ⟨hsame, hth⟩ := hway hne
      obtain ⟨u, hu, huleft, huway⟩ := ih (s := t) (hsame ▸ hop) hth hmore (by omega)
      refine ⟨u, (ticks_cons_of_tick ht rest).trans hu, ?_, fun h => (huway h).trans hsame⟩
      rw [huleft, hload, hleft, List.length_cons]
      omega

/-- Settles O54: each of the three operations starts with seven ticks to go, and `ticks_of_ne_instr` counts them down. -/
theorem nonInstructionOperationsTakeSevenCycles : Obligations.NonInstructionOperationsTakeSevenCycles := by
  intro s
  refine ⟨fun hstart hh => ?_, fun irq nmi => ⟨_, rfl, rfl, rfl, rfl⟩⟩
  have hop : s.op ≠ .instr := by
    rcases hstart with ⟨h | h, -⟩ | ⟨h, -⟩ <;> simp [h]
  have hcost : opCost s = 7 := opCost_of_ne_instr hop
  have hseven : (loadCost s).cyclesRemaining = 7 := by
    rcases hstart with ⟨-, h⟩ | ⟨-, h⟩ <;> simp [h, hcost]
  refine ⟨hcost, fun inputs hpos hle => ?_⟩
  obtain ⟨t, ht, hleft, hway⟩ := ticks_of_ne_instr hop hh hpos (hseven ▸ hle)
  rw [hseven] at hleft
  exact ⟨t, ht, hleft, fun hlt => hway (by omega)⟩

end Sys2Proof.Machine

/-! PROOFS. The decoder and the encoder (30_encoding.md R100 to R103, R118 to R123): what a successful decode is, the bytes of an
instruction from its operand, and the instruction from its bytes. -/

namespace Sys2Proof

open Sys2Proof.Machine (operandOf ofBytes_operand ofBytes_mnemonic descriptor_length wordOf_hi_lo lo_wordOf hi_wordOf)

/-- The trailing bytes of an operand (R100, R103). -/
def Operand.bytes : Operand → List Byte
  | .implied => []
  | .imm v | .zp v | .zpx v | .zpy v | .izx v | .izy v | .rel v => [v]
  | .abs w | .abx w | .aby w | .ind w => [lo w, hi w]

/-- An encoding is the opcode byte and the bytes of the operand (R100). -/
theorem encode_eq_cons (i : Instr) : encode i = i.opcode :: i.operand.bytes := by
  cases i <;> rfl

theorem Operand.bytes_length (o : Operand) : o.bytes.length + 1 = o.mode.length := by
  cases o <;> rfl

theorem Mode.length_pos (m : Mode) : 1 ≤ m.length := by
  cases m <;> decide

theorem Mode.length_le (m : Mode) : m.length ≤ 3 := by
  cases m <;> decide

/-- An encoding is as long as its mode says (R103). -/
theorem encode_length (i : Instr) : (encode i).length = i.operand.mode.length := by
  rw [encode_eq_cons, List.length_cons, Operand.bytes_length]

theorem mode_operandOf (m : Mode) (b1 b2 : Byte) : (operandOf m b1 b2).mode = m := by
  cases m <;> rfl

/-- The bytes of the operand a mode makes of two bytes: as many of them as the mode's length reaches. -/
theorem bytes_operandOf (m : Mode) (b1 b2 : Byte) : (operandOf m b1 b2).bytes = [b1, b2].take (m.length - 1) := by
  cases m <;> simp [operandOf, Operand.bytes, Mode.length]

theorem take_getD_eq_self {l : List Byte} (h : l.length ≤ 2) : [l.getD 0 0, l.getD 1 0].take l.length = l := by
  match l, h with
  | [], _ => rfl
  | [_], _ => rfl
  | [_, _], _ => rfl
  | _ :: _ :: _ :: l, h => simp at h

/-- A decode succeeds exactly on an opcode byte followed by as many bytes as its descriptor asks for (R121). -/
theorem decode_eq_ok_iff {bytes rest : List Byte} {i : Instr} :
    decode bytes = .ok (i, rest) ↔ ∃ opc l, bytes = opc :: (l ++ rest) ∧ l.length + 1 = (descriptor opc).length ∧
      i = Instr.ofBytes opc (l.getD 0 0) (l.getD 1 0) := by
  constructor
  · intro h
    unfold decode at h
    split at h
    · cases h
    next opc tail =>
      split at h
      next hlen => cases h; exact ⟨opc, [], rfl, hlen.symm, rfl⟩
      next b1 tail hlen => cases h; exact ⟨opc, [b1], rfl, hlen.symm, rfl⟩
      next b1 b2 tail hlen => cases h; exact ⟨opc, [b1, b2], rfl, hlen.symm, rfl⟩
      · cases h
  · rintro ⟨opc, l, rfl, hlen, rfl⟩
    have hle : (descriptor opc).length ≤ 3 := descriptor_length opc ▸ Mode.length_le _
    match l, hlen with
    | [], hlen => simp [decode, ← hlen]
    | [b1], hlen => simp [decode, ← hlen]
    | [b1, b2], hlen => simp [decode, ← hlen]
    | _ :: _ :: _ :: l, hlen =>
      simp only [List.length_cons] at hlen
      omega

/-- The operand bytes make no difference to the opcode byte and to well-formedness. -/
theorem ofBytes_opcode_wf (opc b1 b2 : Byte) :
    (Instr.ofBytes opc b1 b2).opcode = (Instr.ofBytes opc 0 0).opcode ∧
      (Instr.ofBytes opc b1 b2).wf = (Instr.ofBytes opc 0 0).wf := by
  unfold Instr.ofBytes
  split <;> exact ⟨rfl, rfl⟩

/-- Every opcode byte gives a well-formed instruction that carries it (R101). -/
theorem ofBytes_zero : ∀ opc : Byte, (Instr.ofBytes opc 0 0).opcode = opc ∧ (Instr.ofBytes opc 0 0).wf = true := by
  decide

theorem opcode_ofBytes (opc b1 b2 : Byte) : (Instr.ofBytes opc b1 b2).opcode = opc :=
  (ofBytes_opcode_wf opc b1 b2).1.trans (ofBytes_zero opc).1

theorem wf_ofBytes (opc b1 b2 : Byte) : (Instr.ofBytes opc b1 b2).wf = true :=
  (ofBytes_opcode_wf opc b1 b2).2.trans (ofBytes_zero opc).2

/-- The encoding of what an opcode byte and operand bytes of the right number make is those bytes. -/
theorem encode_ofBytes {opc : Byte} {l : List Byte} (h : l.length + 1 = (descriptor opc).length) :
    encode (Instr.ofBytes opc (l.getD 0 0) (l.getD 1 0)) = opc :: l := by
  have hle : (descriptor opc).length ≤ 3 := descriptor_length opc ▸ Mode.length_le _
  rw [encode_eq_cons, opcode_ofBytes, ofBytes_operand, bytes_operandOf, ← descriptor_length, ← h, Nat.add_sub_cancel,
    take_getD_eq_self (by omega)]

/-- The bytes without a row of their own are the listed ones (R119, R123). -/
theorem descriptor_mnemonic_eq_undoc_iff : ∀ opc : Byte,
    (descriptor opc).mnemonic = .UNDOC ↔ opc ∈ undocumentedBytes := by decide

/-- The sentinel is the one constructor with its mnemonic. -/
theorem eq_undoc_of_mnemonic {i : Instr} (h : i.mnemonic = .UNDOC) : i = .undoc i.opcode := by
  cases i <;> cases h
  rfl

/-- An undocumented byte is the sentinel's (R119). -/
theorem ofBytes_undocumented {opc : Byte} (h : opc ∈ undocumentedBytes) (b1 b2 : Byte) :
    Instr.ofBytes opc b1 b2 = .undoc opc := by
  have hi := eq_undoc_of_mnemonic ((ofBytes_mnemonic opc b1 b2).trans ((descriptor_mnemonic_eq_undoc_iff opc).mpr h))
  rwa [opcode_ofBytes] at hi

/-- A well-formed instruction is made of its opcode byte and the bytes of its operand: a two-byte operand is put together
again, every other is taken as it is. -/
theorem ofBytes_opcode_bytes {i : Instr} (h : i.wf = true) :
    Instr.ofBytes i.opcode (i.operand.bytes.getD 0 0) (i.operand.bytes.getD 1 0) = i := by
  cases i
  case undoc opc => exact ofBytes_undocumented (List.contains_iff_mem.mp h) 0 0
  all_goals simp only [Instr.opcode, encode, List.headD_cons]
  any_goals rfl
  all_goals exact congrArg _ (wordOf_hi_lo _)

/-- Settles O2: an instruction is `Instr.ofBytes` of its own bytes, which are as many as its descriptor asks for. -/
theorem decodeEncodeRoundTrip : Obligations.DecodeEncodeRoundTrip := by
  intro i rest hwf
  have hi := ofBytes_opcode_bytes hwf
  have hmode : i.operand.mode = (descriptor i.opcode).mode := by
    rw [← mode_operandOf (descriptor i.opcode).mode, ← ofBytes_operand, hi]
  refine decode_eq_ok_iff.mpr ⟨i.opcode, i.operand.bytes, by rw [encode_eq_cons, List.cons_append], ?_, hi.symm⟩
  rw [Operand.bytes_length, hmode, descriptor_length]

/-- Settles O3: `encode_ofBytes` on the bytes a decode consumed. -/
theorem decodedBytesAreReencoded : Obligations.DecodedBytesAreReencoded := by
  intro bytes rest i h
  obtain ⟨opc, l, rfl, hlen, rfl⟩ := decode_eq_ok_iff.mp h
  exact ⟨wf_ofBytes _ _ _, by rw [encode_ofBytes hlen, List.cons_append]⟩

/-- Settles O4: two operand bytes are enough for any descriptor, whose length is between 1 and 3. -/
theorem everyOpcodeByteDecodes : Obligations.EveryOpcodeByteDecodes := by
  refine ⟨rfl, by decide, fun opc b1 b2 rest => ?_⟩
  have hpos : 1 ≤ (descriptor opc).length := descriptor_length opc ▸ Mode.length_pos _
  have hle : (descriptor opc).length ≤ 3 := descriptor_length opc ▸ Mode.length_le _
  have hl : ([b1, b2].take ((descriptor opc).length - 1)).length + 1 = (descriptor opc).length := by
    simp only [List.length_take, List.length_cons, List.length_nil]
    omega
  refine ⟨_, [b1, b2].drop ((descriptor opc).length - 1) ++ rest,
    decode_eq_ok_iff.mpr ⟨opc, _, by rw [← List.append_assoc, List.take_append_drop]; rfl, hl, rfl⟩,
    opcode_ofBytes _ _ _, ?_, ?_, ?_⟩
  · rw [ofBytes_mnemonic, descriptor_mnemonic_eq_undoc_iff]
  · rw [encode_ofBytes hl, List.length_cons, hl]
    exact hpos
  · rw [encode_ofBytes hl, List.length_cons, hl]
    exact hle

/-- Settles O1: each word is run through the decoder. -/
theorem decodeReadsTheSpecsWords : Obligations.DecodeReadsTheSpecsWords :=
  ⟨rfl, rfl, rfl, rfl, rfl, rfl, rfl, rfl, rfl, rfl, rfl, rfl⟩

/-- Settles O5: each line is computed. -/
theorem disassemblyLinesOfTheSource : Obligations.DisassemblyLinesOfTheSource := by
  unfold Obligations.DisassemblyLinesOfTheSource
  decide

end Sys2Proof

/-! PROOFS. Bytes, words and flags as numbers: a bit as a comparison, `Z` and `N` of a result, signed readings, the halves of a
word; and the address after an instruction. -/

namespace Sys2Proof.Machine

/-- A bit of a byte as a comparison of numbers. -/
theorem getLsbD_eq_decide (v : Byte) (k : Nat) : v.getLsbD k = decide (2 ^ k ≤ v.toNat % 2 ^ (k + 1)) := by
  rw [← BitVec.testBit_toNat, Nat.testBit_eq_decide_div_mod_eq]
  refine decide_eq_decide.mpr ?_
  have hsplit := Nat.mod_pow_succ (b := 2) (k := k) (x := v.toNat)
  have hlow : v.toNat % 2 ^ k < 2 ^ k := Nat.mod_lt _ (Nat.two_pow_pos k)
  rcases Nat.mod_two_eq_zero_or_one (v.toNat / 2 ^ k) with h | h <;> rw [h] at hsplit ⊢ <;> omega

/-- The sign bit of a byte as a comparison. -/
theorem getLsbD_seven (v : Byte) : v.getLsbD 7 = decide (128 ≤ v.toNat) := by
  rw [getLsbD_eq_decide, Nat.mod_eq_of_lt v.isLt]
  rfl

theorem beq_zero_eq_decide (v : Byte) : (v == 0) = decide (v.toNat = 0) := by
  rw [← Bool.beq_eq_decide_eq]
  exact decide_eq_decide.mpr (BitVec.toNat_inj (y := 0)).symm

/-- `SetZN` reads its result as a number (10_state.md R45). -/
theorem setZN_eq_znOf (p : Flags) (v : Byte) : p.setZN v = znOf p v := by
  rw [Flags.setZN, znOf, getLsbD_seven, beq_zero_eq_decide]

/-- A byte read as two's complement. -/
theorem toInt_eq_ite (v : Byte) : v.toInt = if 128 ≤ v.toNat then (v.toNat : Int) - 256 else v.toNat := by
  rw [BitVec.toInt_eq_toNat_cond]
  split <;> split <;> omega

theorem wordOf_eq_ofNat (h l : Byte) : wordOf h l = BitVec.ofNat 16 (l.toNat + 256 * h.toNat) := by
  rw [← toNat_wordOf, BitVec.ofNat_toNat, BitVec.setWidth_eq]

/-- Two words are in different pages when their numbers divided by 256 differ. -/
theorem hi_bne_hi (v w : Word) : (hi v != hi w) = decide (v.toNat / 256 ≠ w.toNat / 256) := by
  rw [← toNat_hi, ← toNat_hi, Bool.eq_iff_iff, bne_iff_ne, decide_eq_true_iff]
  exact BitVec.toNat_inj.symm.not

/-- The address after an instruction (R36). -/
theorem nextPc_operand (i : Instr) (s : State) : nextPc i.operand s = s.pc + size i := by
  rw [nextPc, size, encode_length]

/-- The meaning of an instruction from its mnemonic. -/
theorem exec_of_mnemonic {i : Instr} {m : Mnemonic} (h : i.mnemonic = m) (s : State) :
    exec i s = .next (effect m i.operand i.opcode s) := h ▸ exec_eq_effect i s

theorem execWith_of_mnemonic {i : Instr} {m : Mnemonic} (h : i.mnemonic = m) (s : State) (P : Params) :
    execWith P i s = .next (effect m i.operand i.opcode s P) := h ▸ execWith_eq_effect P i s

end Sys2Proof.Machine

/-! PROOFS. The indexed, pointer and relative modes (30_encoding.md R111 to R116). -/

namespace Sys2Proof.Machine

/-- An address indexed by a register: the page is crossed when the low byte plus the register reaches 256 (R111, R112, R115). -/
theorem indexed_zext16 (w : Word) (k : Byte) :
    indexed w (zext16 k) =
      (.addr (BitVec.ofNat 16 (w.toNat + k.toNat)), decide (256 ≤ w.toNat % 256 + k.toNat)) := by
  have hk : k.toNat < 256 := k.isLt
  have hw : w.toNat < 65536 := w.isLt
  have hsum : w + zext16 k = BitVec.ofNat 16 (w.toNat + k.toNat) := by
    rw [zext16_eq_ofNat, BitVec.ofNat_add, BitVec.ofNat_toNat 16 w, BitVec.setWidth_eq]
  rw [indexed, hsum, hi_bne_hi, BitVec.toNat_ofNat]
  refine congrArg _ (decide_eq_decide.mpr ?_)
  omega

/-- The word a zero-page pointer designates, both bytes from the zero page (R77). -/
theorem read16ZP_eq_ofNat (s : State) (z : Byte) :
    s.read16ZP z = BitVec.ofNat 16 ((s.load (BitVec.ofNat 16 z.toNat)).toNat +
      256 * (s.load (BitVec.ofNat 16 ((z.toNat + 1) % 256))).toNat) := by
  have hone : (1 : Byte).toNat = 1 := rfl
  rw [State.read16ZP, wordOf_eq_ofNat, zext16_add, zext16_eq_ofNat, hone]

theorem toNat_read16ZP (s : State) (z : Byte) :
    (s.read16ZP z).toNat = (s.load (BitVec.ofNat 16 z.toNat)).toNat +
      256 * (s.load (BitVec.ofNat 16 ((z.toNat + 1) % 256))).toNat := by
  have hone : (1 : Byte).toNat = 1 := rfl
  rw [State.read16ZP, toNat_wordOf, zext16_add, zext16_eq_ofNat, hone]

/-- Sign extension keeps the signed number modulo 65536 (R9). -/
theorem toNat_add_sext16 (w : Word) (d : Byte) : ((w + sext16 d).toNat : Int) = ((w.toNat : Int) + d.toInt) % 65536 := by
  rw [sext16, BitVec.signExtend, BitVec.toNat_add, BitVec.toNat_ofInt]
  omega

/-- The word after a relative branch, as a number (R36). -/
theorem toNat_add_two (w : Word) : (w + 2).toNat = (w.toNat + 2) % 65536 := BitVec.toNat_add w 2

/-- The target of a relative branch (R116). -/
theorem toNat_relTarget (w : Word) (d : Byte) :
    ((w + 2 + sext16 d).toNat : Int) = ((w.toNat : Int) + 2 + d.toInt) % 65536 := by
  rw [toNat_add_sext16, toNat_add_two]
  omega

/-- Settles O7: the indexed modes by `indexed_zext16`, the pointers by the words they read, the branch by its target. -/
theorem indexedAndPointerModesResolve : Obligations.IndexedAndPointerModesResolve := by
  intro s z d w
  refine ⟨indexed_zext16 w s.x, indexed_zext16 w s.y, ?_, ?_, ?_, ⟨s.pc + 2 + sext16 d, toNat_relTarget s.pc d, ?_⟩,
    fun o ea h => ⟨(resolve_fst_eq_addr_iff o s _ ea).mpr h, operandValue_of_effAddr h⟩⟩
  · rw [resolve, State.read16Bug, wordOf_eq_ofNat, nextInPage_eq_ofNat]
  · rw [resolve, read16ZP_eq_ofNat, BitVec.toNat_add]
  · rw [resolve, indexed_zext16, toNat_read16ZP]
  · rw [resolve, indexed, hi_bne_hi, toNat_add_two]

end Sys2Proof.Machine

/-! PROOFS. What the instructions of each family leave (40_load_store.md to 46_branch.md, 49_flag_nop_brk.md), in the modes that
have an effective address and in those that have none. -/

namespace Sys2Proof.Machine

/-- A load sees nothing of the state but memory. -/
theorem State.load_congr {s t : State} (h : t.mem = s.mem) (b : Word) (P : Params := Config.params) :
    t.load b P = s.load b P := by
  rw [State.load, h, State.load]

/-- A state with the memory of a store has the byte stored (R72). -/
theorem storedAt_of_mem {s t : State} {ea : Word} {v : Byte} (h : t.mem = (s.store ea v).mem) : StoredAt ea v s t where
  stored := by rw [State.load_congr h, State.load_store, if_pos rfl]
  elsewhere b hb := by rw [State.load_congr h, State.load_store, if_neg hb]

/-- With an effective address a write-back is a store there (R175). -/
theorem writeBack_of_effAddr {o : Operand} {s : State} {P : Params} {ea : Word} (h : effAddr o s P = some ea) (v : Byte) :
    writeBack o v s P = s.store ea v P := by
  rw [writeBack, (resolve_fst_eq_addr_iff o s P ea).mpr h]

/-- Every mode but Implied and Immediate has an effective address (R104). -/
theorem exists_effAddr {o : Operand} (h : o.mode ∉ [.implied, .immediate]) (s : State) (P : Params := Config.params) :
    ∃ ea, effAddr o s P = some ea := by
  cases o
  case implied => simp [Operand.mode] at h
  case imm => simp [Operand.mode] at h
  all_goals exact ⟨_, rfl⟩

/-- The mnemonics all of whose forms have an effective address (R122). -/
def addressMnemonics : List Mnemonic := [.STA, .STX, .STY, .INC, .DEC, .BIT]

theorem mode_of_addressMnemonics {i : Instr} (h : i.mnemonic ∈ addressMnemonics) :
    i.operand.mode ∉ [.implied, .immediate] := by
  revert h
  cases i <;> simp [Instr.mnemonic, Instr.operand, Operand.mode, addressMnemonics]

/-- A shift or rotate is an accumulator form or has an effective address (R175). -/
theorem mode_of_shift {i : Instr} (h : i.mnemonic ∈ [.ASL, .LSR, .ROL, .ROR]) :
    i.operand = .implied ∨ i.operand.mode ∉ [.implied, .immediate] := by
  revert h
  cases i <;> simp [Instr.mnemonic, Instr.operand, Operand.mode]

/-- Settles O8. -/
theorem loadsSetTheRegisterAndZN : Obligations.LoadsSetTheRegisterAndZN := by
  intro i s m
  simp only [← setZN_eq_znOf, ← nextPc_operand]
  exact ⟨fun h => exec_of_mnemonic h s, fun h => exec_of_mnemonic h s, fun h => exec_of_mnemonic h s⟩

/-- Settles O9: a store is a write-back to an effective address. -/
theorem storesWriteOneByteAndNothingElse : Obligations.StoresWriteOneByteAndNothingElse := by
  intro i s writes
  have stores {r : Byte} (hm : i.mnemonic ∈ addressMnemonics)
      (h : exec i s = .next (advance i.operand (writeBack i.operand r s))) : writes r := by
    obtain ⟨ea, hea⟩ := exists_effAddr (mode_of_addressMnemonics hm) s
    rw [writeBack_of_effAddr hea] at h
    exact ⟨ea, _, hea, h, by rw [← nextPc_operand]; rfl, storedAt_of_mem rfl⟩
  refine ⟨fun h => ?_, fun h => ?_, fun h => ?_⟩ <;>
    exact stores (by simp [h, addressMnemonics]) (exec_of_mnemonic h s)

/-- Settles O10. -/
theorem transfersCopyAndSetZN : Obligations.TransfersCopyAndSetZN := by
  intro s
  simp only [← setZN_eq_znOf]
  exact ⟨rfl, rfl, rfl, rfl, rfl, rfl⟩

theorem toNat_add_one (v : Byte) : (v + 1).toNat = (v.toNat + 1) % 256 := BitVec.toNat_add v 1

theorem toNat_sub_one (v : Byte) : (v - 1).toNat = (v.toNat + 255) % 256 := by
  rw [BitVec.toNat_sub, Nat.add_comm]
  rfl

/-- Settles O11. -/
theorem registerIncrementsAndDecrementsWrap : Obligations.RegisterIncrementsAndDecrementsWrap := by
  intro s
  simp only [← setZN_eq_znOf]
  exact ⟨⟨s.x + 1, toNat_add_one s.x, rfl⟩, ⟨s.y + 1, toNat_add_one s.y, rfl⟩, ⟨s.x - 1, toNat_sub_one s.x, rfl⟩,
    ⟨s.y - 1, toNat_sub_one s.y, rfl⟩⟩

/-- Settles O12: the result of an increment or decrement is written back to an effective address. -/
theorem memoryIncrementsAndDecrementsWrap : Obligations.MemoryIncrementsAndDecrementsWrap := by
  intro i s changes
  have stores {k : Nat} {f : Byte → Byte} (hm : i.mnemonic ∈ addressMnemonics)
      (hf : ∀ v, (f v).toNat = (v.toNat + k) % 256)
      (h : exec i s = .next (advance i.operand ((writeBack i.operand (f (operandValue i.operand s)) s).setFlags
        (s.p.setZN (f (operandValue i.operand s)))))) : changes k := by
    obtain ⟨ea, hea⟩ := exists_effAddr (mode_of_addressMnemonics hm) s
    rw [writeBack_of_effAddr hea, operandValue_of_effAddr hea, setZN_eq_znOf] at h
    exact ⟨ea, _, _, hea, hf _, h, by rw [← nextPc_operand]; rfl, storedAt_of_mem rfl⟩
  exact ⟨fun h => stores (f := (· + 1)) (by simp [h, addressMnemonics]) toNat_add_one (exec_of_mnemonic h s),
    fun h => stores (f := (· - 1)) (by simp [h, addressMnemonics]) toNat_sub_one (exec_of_mnemonic h s)⟩

/-- Settles O17. -/
theorem logicCombinesWithTheAccumulator : Obligations.LogicCombinesWithTheAccumulator := by
  intro i s m combines
  have logic {f : Bool → Bool → Bool} {r : Byte} (hr : ∀ k < 8, r.getLsbD k = f (s.a.getLsbD k) (m.getLsbD k))
      (h : exec i s = .next (advance i.operand ((s.setA r).setFlags (s.p.setZN r)))) : combines f :=
    ⟨r, hr, by rw [h, ← setZN_eq_znOf, ← nextPc_operand]; rfl⟩
  exact ⟨fun h => logic (fun _ _ => BitVec.getLsbD_and) (exec_of_mnemonic h s),
    fun h => logic (fun _ _ => BitVec.getLsbD_or) (exec_of_mnemonic h s),
    fun h => logic (fun _ _ => BitVec.getLsbD_xor) (exec_of_mnemonic h s)⟩

/-- Two bytes have no bit in common exactly when their conjunction is 0. -/
theorem and_eq_zero_iff (a m : Byte) : a &&& m = 0 ↔ ∀ k : Fin 8, (a.getLsbD k && m.getLsbD k) = false := by
  constructor
  · intro h k
    rw [← BitVec.getLsbD_and, h]
    exact BitVec.getLsbD_zero
  · intro h
    refine BitVec.eq_of_getLsbD_eq fun k hk => ?_
    rw [BitVec.getLsbD_and]
    exact (h ⟨k, hk⟩).trans BitVec.getLsbD_zero.symm

/-- Settles O18. -/
theorem bitTestsMemoryAgainstAccumulator : Obligations.BitTestsMemoryAgainstAccumulator := by
  intro i s h
  have hm : i.mnemonic ∈ addressMnemonics := by simp [h, addressMnemonics]
  obtain ⟨ea, hea⟩ := exists_effAddr (mode_of_addressMnemonics hm) s
  refine ⟨ea, hea, ?_⟩
  have hz : (s.a &&& s.load ea == 0) = decide (∀ k : Fin 8, (s.a.getLsbD k && (s.load ea).getLsbD k) = false) := by
    rw [Bool.eq_iff_iff, beq_iff_eq, decide_eq_true_iff, and_eq_zero_iff]
  have hv : (s.load ea).getLsbD 6 = decide (64 ≤ (s.load ea).toNat % 128) := getLsbD_eq_decide _ 6
  rw [exec_of_mnemonic h, effect, opBit, operandValue_of_effAddr hea, Flags.bitTest, hz, hv, getLsbD_seven,
    ← nextPc_operand]
  rfl

/-- The flags of a compare by the order of the two numbers (45_compare.md R185). -/
theorem compare_eq (p : Flags) (r m : Byte) :
    p.compare r m = { p with
      c := decide (m.toNat ≤ r.toNat), z := decide (r = m)
      n := decide (128 ≤ (r.toNat + 256 - m.toNat) % 256) } := by
  have hz : (r - m == 0) = decide (r = m) := by
    rw [Bool.eq_iff_iff, beq_iff_eq, decide_eq_true_iff]
    exact sub_eq_zero
  have hn : (r - m).toNat = (r.toNat + 256 - m.toNat) % 256 := by
    have hm : m.toNat < 256 := m.isLt
    rw [BitVec.toNat_sub]
    omega
  rw [Flags.compare, Flags.setZN, hz, getLsbD_seven, hn]

/-- Settles O21. -/
theorem comparesOrderUnsigned : Obligations.ComparesOrderUnsigned := by
  intro i s m compares
  simp only [compares, ← compare_eq, ← nextPc_operand]
  exact ⟨fun h => exec_of_mnemonic h s, fun h => exec_of_mnemonic h s, fun h => exec_of_mnemonic h s⟩

/-- The engine's reading of a branch condition is the table's (46_branch.md R190). -/
theorem branchTaken_eq (m : Mnemonic) (p : Flags) : branchTaken m p = (branchCondition m p == some true) := by
  obtain ⟨n, v, b, d, i, z, c⟩ := p
  cases m
  case BPL | BMI => cases n <;> rfl
  case BVC | BVS => cases v <;> rfl
  case BCC | BCS => cases c <;> rfl
  case BNE | BEQ => cases z <;> rfl
  all_goals rfl

/-- An instruction that has a branch condition is a branch by it. -/
theorem effect_of_branchCondition {m : Mnemonic} {s : State} {taken : Bool} (h : branchCondition m s.p = some taken)
    (o : Operand) (opc : Byte) : effect m o opc s = branchIf taken o s := by
  have ht : branchTaken m s.p = taken := by
    rw [branchTaken_eq, h]
    cases taken <;> rfl
  cases m
  case BPL | BMI | BVC | BVS | BCC | BCS | BNE | BEQ => exact congrArg (branchIf · o s) ht
  all_goals cases h

/-- Settles O22: a branch not taken goes to the same place as one with offset 0. -/
theorem branchesGoToTheTargetWhenTaken : Obligations.BranchesGoToTheTargetWhenTaken := by
  intro i s d taken hop hcond
  rw [exec_eq_effect, hop, effect_of_branchCondition hcond]
  cases taken
  · refine ⟨s.pc + 2, ?_, rfl⟩
    rw [toNat_add_two]
    simp
  · exact ⟨s.pc + 2 + sext16 d, toNat_relTarget s.pc d, rfl⟩

/-- Settles O30. -/
theorem flagInstructionsWriteOneFlag : Obligations.FlagInstructionsWriteOneFlag :=
  fun _ => ⟨rfl, rfl, rfl, rfl, rfl, rfl, rfl⟩

/-- Settles O31. -/
theorem nopMovesOnlyTheProgramCounter : Obligations.NopMovesOnlyTheProgramCounter := fun _ => rfl

end Sys2Proof.Machine

/-! PROOFS. Add and subtract with carry (43_arithmetic.md R161 to R164): the binary sum and its signed overflow as integers, the
subtract as an add of the complement, and the packed BCD results of the decimal algorithms. -/

namespace Sys2Proof.Machine

/-- The sign bit picked out by a mask. -/
theorem and_0x80_bne_zero (x : Byte) : ((x &&& 0x80) != 0) = x.getLsbD 7 := by
  have hmask : (0x80 : Byte) = BitVec.twoPow 8 7 := rfl
  rw [hmask, BitVec.and_twoPow]
  cases x.getLsbD 7 <;> rfl

/-- The overflow bit of an add is set exactly when the signed sum leaves -128..127 (R161). -/
theorem overflow_eq_decide {a m r : Byte} {c : Bool} (hr : r.toNat = (a.toNat + m.toNat + c.toNat) % 256) :
    (((a ^^^ r) &&& (m ^^^ r) &&& 0x80) != 0) =
      decide (a.toInt + m.toInt + c.toNat < -128 ∨ 127 < a.toInt + m.toInt + c.toNat) := by
  have hc : c.toNat ≤ 1 := Bool.toNat_le c
  have ha : a.toNat < 256 := a.isLt
  have hm : m.toNat < 256 := m.isLt
  rw [and_0x80_bne_zero, BitVec.getLsbD_and, BitVec.getLsbD_xor, BitVec.getLsbD_xor, getLsbD_seven, getLsbD_seven,
    getLsbD_seven, toInt_eq_ite, toInt_eq_ite]
  by_cases hA : 128 ≤ a.toNat <;> by_cases hM : 128 ≤ m.toNat <;> by_cases hR : 128 ≤ r.toNat <;>
    simp only [hA, hM, hR, decide_true, decide_false, if_true, if_false, Bool.xor_self, Bool.and_false,
      Bool.xor_true, Bool.xor_false, Bool.not_false, Bool.and_true, eq_comm (b := decide _),
      decide_eq_true_iff, decide_eq_false_iff_not] <;>
    omega

/-- The binary add, its flags as integers (R161). -/
theorem binaryAdc_eq (a m : Byte) (c : Bool) :
    binaryAdc a m c =
      { value := BitVec.ofNat 8 (a.toNat + m.toNat + c.toNat)
        c := decide (255 < a.toNat + m.toNat + c.toNat)
        z := decide ((BitVec.ofNat 8 (a.toNat + m.toNat + c.toNat)).toNat = 0)
        v := decide (a.toInt + m.toInt + c.toNat < -128 ∨ 127 < a.toInt + m.toInt + c.toNat)
        n := decide (128 ≤ (BitVec.ofNat 8 (a.toNat + m.toNat + c.toNat)).toNat) } := by
  rw [binaryAdc, overflow_eq_decide (BitVec.toNat_ofNat _ _), beq_zero_eq_decide, getLsbD_seven]

/-- The subtract is the add of the complement (R164). -/
theorem binarySbc_eq_binaryAdc (a m : Byte) (c : Bool) : binarySbc a m c = binaryAdc a (m ^^^ 0xFF) c := rfl

theorem toNat_complement (m : Byte) : (m ^^^ 0xFF).toNat = 255 - m.toNat := by
  have hones : (0xFF : Byte) = BitVec.allOnes 8 := rfl
  rw [hones, BitVec.xor_allOnes, BitVec.toNat_not]

theorem toInt_complement (m : Byte) : (m ^^^ 0xFF).toInt = -m.toInt - 1 := by
  have hm : m.toNat < 256 := m.isLt
  rw [toInt_eq_ite, toInt_eq_ite, toNat_complement]
  split <;> split <;> omega

/-- What an add or subtract leaves (R161, R164). -/
theorem aluState_eq (o : Operand) (s : State) (r : AluResult) :
    advance o ((s.setA r.value).setFlags (s.p.ofAlu r)) =
      { s with a := r.value, p := { s.p with n := r.n, v := r.v, z := r.z, c := r.c }, pc := nextPc o s } := rfl

/-- Settles O13. -/
theorem binaryAdcAddsWithCarry : Obligations.BinaryAdcAddsWithCarry := by
  intro i s h hd m sum signed
  refine ⟨BitVec.ofNat 8 sum, BitVec.toNat_ofNat _ _, ?_⟩
  rw [exec_of_mnemonic h, effect, opAdc, adcResult, if_neg (by simp [hd]), binaryAdc_eq, aluState_eq, nextPc_operand]
  rfl

/-- Settles O14: the carry-in of the add is the borrow that is missing. -/
theorem binarySbcSubtractsWithBorrow : Obligations.BinarySbcSubtractsWithBorrow := by
  intro i s h hd m borrow signed
  have hc : s.p.c.toNat ≤ 1 := Bool.toNat_le _
  have hm : m.toNat < 256 := m.isLt
  have hborrow : borrow = 1 - s.p.c.toNat := rfl
  have hcarry : (255 < s.a.toNat + (255 - m.toNat) + s.p.c.toNat) = (m.toNat + borrow ≤ s.a.toNat) :=
    propext ⟨fun _ => by omega, fun _ => by omega⟩
  have hsigned : s.a.toInt + (-m.toInt - 1) + s.p.c.toNat = signed := by
    show _ = s.a.toInt - m.toInt - (borrow : Int)
    omega
  refine ⟨BitVec.ofNat 8 (s.a.toNat + (255 - m.toNat) + s.p.c.toNat), ?_, ?_⟩
  · rw [BitVec.toNat_ofNat]
    omega
  · rw [exec_of_mnemonic h, effect, opSbc, sbcResult, if_neg (by simp [hd]), binarySbc_eq_binaryAdc, binaryAdc_eq,
      aluState_eq, nextPc_operand, toNat_complement, toInt_complement]
    simp only [m, hcarry, hsigned, znOf]

theorem toNat_and_0x0F (v : Byte) : (v &&& 0x0F).toNat = v.toNat % 16 := by
  rw [BitVec.toNat_and]
  exact Nat.and_two_pow_sub_one_eq_mod v.toNat 4

theorem toNat_and_0xF0 : ∀ v : Byte, (v &&& 0xF0).toNat = v.toNat / 16 * 16 := by decide

/-- A byte of two decimal digits is valid packed BCD and stands for the number of those digits. -/
theorem bcd_of_digits {v : Byte} {h l : Nat} (hv : v.toNat = 16 * h + l) (hh : h ≤ 9) (hl : l ≤ 9) :
    BcdValid v ∧ bcd v = 10 * h + l := by
  simp only [BcdValid, bcd, hv]
  omega

/-- On valid packed BCD the decimal add is the addition of the two numbers, column by column, with carry (R162). -/
theorem decimalAdc_bcd {a m : Byte} (c : Bool) (ha : BcdValid a) (hm : BcdValid m) :
    BcdValid (decimalAdc a m c).value ∧ bcd (decimalAdc a m c).value = (bcd a + bcd m + c.toNat) % 100 ∧
      (decimalAdc a m c).c = decide (100 ≤ bcd a + bcd m + c.toNat) := by
  have hc : c.toNat ≤ 1 := Bool.toNat_le c
  obtain ⟨ha0, ha1⟩ := ha
  obtain ⟨hm0, hm1⟩ := hm
  obtain ⟨low, hlow⟩ : ∃ low, low = a.toNat % 16 + m.toNat % 16 + c.toNat := ⟨_, rfl⟩
  obtain ⟨high, hhigh⟩ : ∃ high, high = a.toNat / 16 + m.toNat / 16 + low / 10 := ⟨_, rfl⟩
  have hvalue : (decimalAdc a m c).value.toNat = 16 * (high % 10) + low % 10 := by
    simp only [decimalAdc, toNat_and_0x0F, toNat_and_0xF0, BitVec.toNat_ofNat, ← hlow]
    split <;> split <;> omega
  have hcarry : (decimalAdc a m c).c = decide (10 ≤ high) := by
    simp only [decimalAdc, toNat_and_0x0F, toNat_and_0xF0, ← hlow]
    refine decide_eq_decide.mpr ?_
    split <;> split <;> omega
  obtain ⟨hvalid, hbcd⟩ := bcd_of_digits hvalue (by omega) (by omega)
  refine ⟨hvalid, ?_, ?_⟩
  · rw [hbcd, bcd, bcd]
    omega
  · rw [hcarry, bcd, bcd, decide_eq_decide]
    omega

/-- On valid packed BCD the decimal subtract is the subtraction of the two numbers, column by column, with borrow (R163). -/
theorem decimalSbc_bcd {a m : Byte} (c : Bool) (ha : BcdValid a) (hm : BcdValid m) :
    BcdValid (decimalSbc a m c).value ∧
      (bcd (decimalSbc a m c).value : Int) = ((bcd a : Int) - bcd m - (1 - c.toNat : Nat)) % 100 ∧
      (decimalSbc a m c).c = decide (0 ≤ (bcd a : Int) - bcd m - (1 - c.toNat : Nat)) := by
  have hc : c.toNat ≤ 1 := Bool.toNat_le c
  have hlt : m.toNat < 256 := m.isLt
  obtain ⟨ha0, ha1⟩ := ha
  obtain ⟨hm0, hm1⟩ := hm
  obtain ⟨low, hlow⟩ : ∃ low : Int, low = (a.toNat % 16 : Nat) - (m.toNat % 16 : Nat) + c.toNat - 1 := ⟨_, rfl⟩
  obtain ⟨high, hhigh⟩ : ∃ high : Int, high = (a.toNat / 16 : Nat) - (m.toNat / 16 : Nat) + low / 10 := ⟨_, rfl⟩
  have hlowDigit : low / 10 = -1 ∧ -10 ≤ low ∧ low < 0 ∨ low / 10 = 0 ∧ 0 ≤ low := by omega
  have hhighDigit : high / 10 = -1 ∧ -10 ≤ high ∧ high < 0 ∨ high / 10 = 0 ∧ 0 ≤ high := by omega
  have hvalue : (decimalSbc a m c).value.toNat = 16 * (high % 10).toNat + (low % 10).toNat := by
    simp only [decimalSbc, toNat_and_0x0F, toNat_and_0xF0, BitVec.toNat_ofInt, ← hlow]
    split <;> split <;> omega
  have hcarry : (decimalSbc a m c).c = decide (0 ≤ high) := by
    simp only [decimalSbc, binarySbc_eq_binaryAdc, binaryAdc_eq, toNat_complement, decide_eq_decide]
    omega
  obtain ⟨hvalid, hbcd⟩ := bcd_of_digits hvalue (by omega) (by omega)
  refine ⟨hvalid, ?_, ?_⟩
  · rw [hbcd, bcd, bcd]
    omega
  · rw [hcarry, bcd, bcd, decide_eq_decide]
    omega

/-- The operand value reads only the registers `A`, `X`, `Y`, `PC` and memory (R13). -/
theorem operandValue_congr {s t : State} {P : Params} (ha : t.a = s.a) (hx : t.x = s.x) (hy : t.y = s.y)
    (hpc : t.pc = s.pc) (hmem : ∀ b, t.load b P = s.load b P) (o : Operand) :
    operandValue o t P = operandValue o s P := by
  rw [operandValue, operandValue, resolve_congr hx hy hpc hmem, ha]
  cases (resolve o s P).1 <;> simp only [hmem]

/-- What `ADC` leaves with `D` set (R161). -/
theorem execWith_adc_decimal {i : Instr} {s : State} (h : i.mnemonic = .ADC) (hd : s.p.d = true) (P : Params) :
    let r := P.decimalAdc s.a (operandValue i.operand s P) s.p.c
    execWith P i s = .next { s with
      a := r.value, p := { s.p with n := r.n, v := r.v, z := r.z, c := r.c }, pc := s.pc + size i } := by
  rw [execWith_of_mnemonic h, effect, opAdc, adcResult, if_pos hd, aluState_eq, nextPc_operand]

/-- What `SBC` leaves with `D` set (R164). -/
theorem execWith_sbc_decimal {i : Instr} {s : State} (h : i.mnemonic = .SBC) (hd : s.p.d = true) (P : Params) :
    let r := P.decimalSbc s.a (operandValue i.operand s P) s.p.c
    execWith P i s = .next { s with
      a := r.value, p := { s.p with n := r.n, v := r.v, z := r.z, c := r.c }, pc := s.pc + size i } := by
  rw [execWith_of_mnemonic h, effect, opSbc, sbcResult, if_pos hd, aluState_eq, nextPc_operand]

/-- Settles O15. -/
theorem decimalAdcIsBcdAddition : Obligations.DecimalAdcIsBcdAddition := by
  intro i s h hd m
  have hexec := execWith_adc_decimal h hd Config.params
  rw [execWith_default] at hexec
  exact ⟨_, _, _, _, _, hexec, beq_eq_decide _ _, decimalAdc_bcd s.p.c, execWith_adc_decimal h hd⟩

/-- Settles O16: the default algorithm takes its flags from the binary subtract. -/
theorem decimalSbcIsBcdSubtraction : Obligations.DecimalSbcIsBcdSubtraction := by
  intro i s h hd m diff
  have hexec := execWith_sbc_decimal h hd Config.params
  rw [execWith_default] at hexec
  have hsame : operandValue i.operand { s with p := { s.p with d := false } } = m :=
    operandValue_congr rfl rfl rfl rfl (fun _ => rfl) _
  refine ⟨_, (binarySbc s.a m s.p.c).value, _, _, _, _, hexec, ?_, decimalSbc_bcd s.p.c, execWith_sbc_decimal h hd⟩
  rw [exec_of_mnemonic h, effect, opSbc, hsame, aluState_eq, nextPc_operand]
  rfl

end Sys2Proof.Machine

/-! PROOFS. Shifts and rotates (44_logic_shift.md R175 to R179): one position as arithmetic, and rotation through the carry. -/

namespace Sys2Proof.Machine

theorem toNat_shiftLeft_one (v : Byte) : (v <<< 1).toNat = 2 * v.toNat % 256 := by
  rw [BitVec.toNat_shiftLeft, Nat.shiftLeft_eq, Nat.mul_comm]

theorem toNat_shiftRight_one (v : Byte) : (v >>> 1).toNat = v.toNat / 2 := by
  rw [BitVec.toNat_ushiftRight, Nat.shiftRight_eq_div_pow]

theorem toNat_aslByte (c : Bool) (v : Byte) : (aslByte c v).1.toNat = 2 * v.toNat % 256 := toNat_shiftLeft_one v

theorem toNat_lsrByte (c : Bool) (v : Byte) : (lsrByte c v).1.toNat = v.toNat / 2 % 256 := by
  rw [lsrByte, toNat_shiftRight_one, Nat.mod_eq_of_lt (Nat.lt_of_le_of_lt (Nat.div_le_self _ _) v.isLt)]

theorem toNat_rolByte : ∀ (c : Bool) (v : Byte), (rolByte c v).1.toNat = (2 * v.toNat + c.toNat) % 256 := by decide

theorem toNat_rorByte : ∀ (c : Bool) (v : Byte), (rorByte c v).1.toNat = (v.toNat / 2 + 128 * c.toNat) % 256 := by decide

theorem getLsbD_zero_eq_decide (v : Byte) : v.getLsbD 0 = decide (v.toNat % 2 = 1) := by
  rw [getLsbD_eq_decide, decide_eq_decide]
  omega

/-- Settles O19: the result goes to `A` in an accumulator form and to the effective address in a memory form. -/
theorem shiftsAndRotatesMoveOnePosition : Obligations.ShiftsAndRotatesMoveOnePosition := by
  intro i s v c moves
  have shifts {f : Bool → Byte → Byte × Bool} {result : Nat} {out : Bool} (hm : i.mnemonic ∈ [.ASL, .LSR, .ROL, .ROR])
      (hresult : (f s.p.c v).1.toNat = result % 256) (hout : (f s.p.c v).2 = out)
      (h : exec i s = .next (shift f i.operand s)) : moves result out := by
    refine ⟨(f s.p.c v).1, _, hresult, h, ?_⟩
    rw [← setZN_eq_znOf, ← nextPc_operand, ← hout]
    rcases mode_of_shift hm with himplied | hmode
    · exact .inl ⟨himplied, by simp only [v, himplied]; rfl, by simp only [v, himplied]; rfl⟩
    · obtain ⟨ea, hea⟩ := exists_effAddr hmode s
      refine .inr ⟨ea, hea, operandValue_of_effAddr hea, ?_, ?_⟩
      · rw [shift, writeBack_of_effAddr hea]
        rfl
      · exact storedAt_of_mem (by rw [shift, writeBack_of_effAddr hea]; rfl)
  refine ⟨fun h => shifts (f := aslByte) (by simp [h]) (toNat_aslByte _ v) (getLsbD_seven v) (exec_of_mnemonic h s),
    fun h => shifts (f := lsrByte) (by simp [h]) (toNat_lsrByte _ v) (getLsbD_zero_eq_decide v) (exec_of_mnemonic h s),
    fun h => shifts (f := rolByte) (by simp [h]) (toNat_rolByte _ v) (getLsbD_seven v) (exec_of_mnemonic h s),
    fun h => shifts (f := rorByte) (by simp [h]) (toNat_rorByte _ v) (getLsbD_zero_eq_decide v) (exec_of_mnemonic h s)⟩

/-- A shift or rotate on a byte and the carry beside it. -/
def onCarry (f : Bool → Byte → Byte × Bool) (x : Byte × Bool) : Byte × Bool := f x.2 x.1

/-- Nine positions are a full turn of the nine bits (R178). -/
theorem onCarry_rolByte_nine : ∀ (v : Byte) (c : Bool), (onCarry rolByte)^[9] (v, c) = (v, c) := by decide

theorem onCarry_rorByte_nine : ∀ (v : Byte) (c : Bool), (onCarry rorByte)^[9] (v, c) = (v, c) := by decide

theorem onCarry_rorByte_rolByte : ∀ (v : Byte) (c : Bool), onCarry rorByte (onCarry rolByte (v, c)) = (v, c) := by decide

/-- An instruction run on the state an outcome answers; a stop stays as it is. -/
def execAfter (i : Instr) (o : Host.Outcome State Fault Refusal) : Host.Outcome State Fault Refusal :=
  match o with
  | .next t => exec i t
  | .fault r => .fault r
  | .refused r => .refused r

/-- An instruction whose accumulator form applies `f` to `A` and `C`. -/
def RotatesBy (i : Instr) (f : Bool → Byte → Byte × Bool) : Prop :=
  ∀ s, ∃ t, exec i s = .next t ∧ (t.a, t.p.c) = onCarry f (s.a, s.p.c)

theorem rotatesBy_rolAcc : RotatesBy .rolAcc rolByte := fun _ => ⟨_, rfl, rfl⟩

theorem rotatesBy_rorAcc : RotatesBy .rorAcc rorByte := fun _ => ⟨_, rfl, rfl⟩

/-- Running such an instruction `n` times applies `f` to `A` and `C` `n` times. -/
theorem RotatesBy.iterate {i : Instr} {f : Bool → Byte → Byte × Bool} (h : RotatesBy i f) (s : State) (n : Nat) :
    ∃ t, (execAfter i)^[n] (.next s) = .next t ∧ (t.a, t.p.c) = (onCarry f)^[n] (s.a, s.p.c) := by
  induction n with
  | zero => exact ⟨s, rfl, rfl⟩
  | succ n ih =>
    obtain ⟨t, ht, hac⟩ := ih
    obtain ⟨u, hu, huc⟩ := h t
    refine ⟨u, ?_, ?_⟩
    · rw [Function.iterate_succ_apply', ht, execAfter, hu]
    · rw [Function.iterate_succ_apply', ← hac, huc]

/-- Settles O20: nine turns of the nine bits, by `RotatesBy.iterate`. -/
theorem nineRotationsRestoreAccumulatorAndCarry : Obligations.NineRotationsRestoreAccumulatorAndCarry := by
  intro s run restored
  obtain ⟨t, ht, htc⟩ := rotatesBy_rolAcc.iterate s 9
  obtain ⟨u, hu, huc⟩ := rotatesBy_rorAcc.iterate s 9
  obtain ⟨v, hv, hvc⟩ := rotatesBy_rolAcc s
  obtain ⟨w, hw, hwc⟩ := rotatesBy_rorAcc v
  rw [onCarry_rolByte_nine] at htc
  rw [onCarry_rorByte_nine] at huc
  rw [hvc, onCarry_rorByte_rolByte] at hwc
  refine ⟨⟨t, ht, Prod.mk.inj htc⟩, ⟨u, hu, Prod.mk.inj huc⟩, ⟨w, ?_, Prod.mk.inj hwc⟩⟩
  rw [hv]
  exact hw

end Sys2Proof.Machine

/-! PROOFS. The stack (20_memory.md R79 to R81): calls and returns, pushes and pulls, interrupt entry and the return from it. -/

namespace Sys2Proof.Machine

/-- The address of a stack slot as a number (R79). -/
theorem toNat_stackAddr (sp : Byte) : (stackAddr sp).toNat = 0x100 + sp.toNat := by
  rw [stackAddr, toNat_wordOf, Nat.add_comm]
  rfl

theorem sub_one_sub_one (v : Byte) : v - 1 - 1 = v - 2 := by bv_omega

theorem add_one_add_one (v : Byte) : v + 1 + 1 = v + 2 := by bv_omega

theorem add_two_add_one (v : Byte) : v + 2 + 1 = v + 3 := by bv_omega

/-- What `JSR` leaves (47_jump_subroutine.md R202). -/
theorem exec_jsr (w : Word) (s : State) :
    exec (.jsr w) s = .next { s with
      mem := ((s.push (hi (s.pc + 2))).push (lo (s.pc + 2))).mem, sp := s.sp - 2, pc := w } := by
  rw [← sub_one_sub_one]
  rfl

/-- Return from subroutine, field by field (R203). -/
theorem opRts_eq (s : State) (P : Params := Config.params) :
    opRts s P =
      { s with
        sp := s.sp + 1 + 1
        pc := wordOf (s.load (stackAddr (s.sp + 1 + 1)) P) (s.load (stackAddr (s.sp + 1)) P) + 1 } := rfl

/-- What `RTS` leaves. -/
theorem exec_rts (s : State) :
    exec .rts s = .next { s with
      sp := s.sp + 2
      pc := wordOf (s.load (stackAddr (s.sp + 2))) (s.load (stackAddr (s.sp + 1))) + 1 } := by
  rw [← add_one_add_one]
  rfl

/-- What `RTI` leaves (R204). -/
theorem exec_rti (s : State) :
    exec .rti s = .next { s with
      sp := s.sp + 3, p := loadStatus (s.load (stackAddr (s.sp + 1)))
      pc := wordOf (s.load (stackAddr (s.sp + 3))) (s.load (stackAddr (s.sp + 2))) } := by
  rw [exec_eq_effect, ← add_two_add_one, ← add_one_add_one]
  exact congrArg _ (interruptReturn_eq s)

/-- The two slots a pushed word takes are different. -/
theorem stackAddr_ne_stackAddr_sub_one (sp : Byte) : stackAddr sp ≠ stackAddr (sp - 1) :=
  stackAddr_inj.not.mpr (by bv_omega)

/-- Settles O24. -/
theorem jsrPushesTheReturnAddress : Obligations.JsrPushesTheReturnAddress := by
  intro s w
  have hload (b : Word) : ({ s with
      mem := ((s.push (hi (s.pc + 2))).push (lo (s.pc + 2))).mem, sp := s.sp - 2, pc := w } : State).load b =
      if b = stackAddr (s.sp - 1) then lo (s.pc + 2) else if b = stackAddr s.sp then hi (s.pc + 2) else s.load b :=
    (State.load_push _ _ b).trans (by rw [State.load_push, State.push_sp])
  refine ⟨_, exec_jsr w s, rfl, ?_, ?_, fun b hb hb1 => ?_, toNat_stackAddr _, ?_⟩
  · rw [hload, if_neg (stackAddr_ne_stackAddr_sub_one _), if_pos rfl]
  · rw [hload, if_pos rfl]
  · rw [hload, if_neg hb1, if_neg hb]
  · rw [toNat_stackAddr, toNat_sub_one]

/-- Settles O25. -/
theorem rtsPullsAndIncrements : Obligations.RtsPullsAndIncrements := by
  intro s
  refine ⟨_, exec_rts s, ?_⟩
  rw [BitVec.toNat_add, toNat_wordOf]
  rfl

/-- Settles O26: `RTS` pulls the two bytes `JSR` pushed. -/
theorem rtsAfterJsrReturnsPastTheCall : Obligations.RtsAfterJsrReturnsPastTheCall := by
  intro s w
  obtain ⟨t, hexec, hframe, hhigh, hlow, helse, -, -⟩ := jsrPushesTheReturnAddress s w
  have hsp : t.sp = s.sp - 2 := by rw [hframe]
  have hsp1 : t.sp + 1 = s.sp - 1 := by bv_omega
  have hsp2 : t.sp + 2 = s.sp := by bv_omega
  have hpc : s.pc + 2 + 1 = s.pc + 3 := by bv_omega
  refine ⟨t, hexec, ?_, helse⟩
  rw [exec_rts, hsp1, hsp2, hhigh, hlow, wordOf_hi_lo, hpc, hframe]

/-- What `PHA` and `PHP` leave (48_stack.md R211, R212). -/
theorem exec_pha (s : State) :
    exec .pha s = .next { s with mem := (s.push s.a).mem, sp := s.sp - 1, pc := s.pc + 1 } := rfl

theorem exec_php (s : State) :
    exec .php s = .next { s with mem := (s.push (statusByte true s.p)).mem, sp := s.sp - 1, pc := s.pc + 1 } := rfl

/-- What `PLA` and `PLP` leave (R213, R214). -/
theorem exec_pla (s : State) :
    exec .pla s = .next { s with
      a := s.load (stackAddr (s.sp + 1)), sp := s.sp + 1, p := znOf s.p (s.load (stackAddr (s.sp + 1)))
      pc := s.pc + 1 } := by
  rw [← setZN_eq_znOf]
  rfl

theorem exec_plp (s : State) :
    exec .plp s = .next { s with
      sp := s.sp + 1, p := loadStatus (s.load (stackAddr (s.sp + 1))), pc := s.pc + 1 } := rfl

/-- A state with the memory of a push has the byte in the slot (R80). -/
theorem storedAt_of_push {s t : State} {v : Byte} (h : t.mem = (s.push v).mem) : StoredAt (stackAddr s.sp) v s t :=
  storedAt_of_mem h

/-- Settles O27. -/
theorem pushesStoreBelowTheStackPointer : Obligations.PushesStoreBelowTheStackPointer := fun s =>
  ⟨toNat_stackAddr s.sp, ⟨_, exec_pha s, rfl, storedAt_of_push rfl⟩,
    ⟨_, _, exec_php s, rfl, storedAt_of_push rfl, statusByte_bits true s.p⟩⟩

/-- The flags loaded from a byte, its bits as comparisons (10_state.md R47). -/
theorem loadStatus_eq_decide (v : Byte) :
    loadStatus v =
      { n := decide (128 ≤ v.toNat), v := decide (64 ≤ v.toNat % 128), b := false, d := decide (8 ≤ v.toNat % 16)
        i := decide (4 ≤ v.toNat % 8), z := decide (2 ≤ v.toNat % 4), c := decide (v.toNat % 2 = 1) } := by
  rw [loadStatus, getLsbD_seven, getLsbD_zero_eq_decide, getLsbD_eq_decide v 6, getLsbD_eq_decide v 3,
    getLsbD_eq_decide v 2, getLsbD_eq_decide v 1]
  rfl

/-- Settles O28. -/
theorem pullsReadAboveTheStackPointer : Obligations.PullsReadAboveTheStackPointer := by
  intro s v
  exact ⟨exec_pla s, by rw [← loadStatus_eq_decide, exec_plp]⟩

/-- The flags loaded from a status byte are the flags it was made of, but for `B` (R46, R47). -/
theorem loadStatus_of_statusBits {v : Byte} {b : Bool} {p : Flags} (h : StatusBits v b p) :
    loadStatus v = { p with b := false } := by
  rw [loadStatus, h.bit7, h.bit6, h.bit3, h.bit2, h.bit1, h.bit0]

/-- Settles O29: the slot above the decremented stack pointer is the one pushed to. -/
theorem pullAfterPushRestores : Obligations.PullAfterPushRestores := by
  intro s
  have hsp {t : State} (h : t.sp = s.sp - 1) : t.sp + 1 = s.sp := by bv_omega
  have hpc {t : State} (h : t.pc = s.pc + 1) : t.pc + 1 = s.pc + 2 := by bv_omega
  obtain ⟨-, ⟨t, ht, htframe, htload⟩, ⟨v, u, hu, huframe, huload, hbits⟩⟩ := pushesStoreBelowTheStackPointer s
  constructor
  · refine ⟨t, _, ht, exec_pla t, ?_, htload.elsewhere⟩
    rw [hsp (by rw [htframe]), hpc (by rw [htframe]), htload.stored, htframe]
  · refine ⟨u, _, hu, exec_plp u, ?_, huload.elsewhere⟩
    rw [hsp (by rw [huframe]), hpc (by rw [huframe]), huload.stored, loadStatus_of_statusBits hbits, huframe]

/-- Interrupt entry's account holds between any two states that agree with its own on what it speaks of. -/
theorem Entered.congr {vector ret : Word} {b : Bool} {s t s' t' : State} (h : Entered vector b ret s t)
    (hs : s' = { s with
      p := s'.p, cyclesRemaining := s'.cyclesRemaining, op := s'.op, irqLatch := s'.irqLatch
      nmiPending := s'.nmiPending, nmiPrev := s'.nmiPrev, halted := s'.halted, calls := s'.calls, diag := s'.diag
      cyclesOut := s'.cyclesOut, pc := s'.pc })
    (ht : t' = { t with
      p := t'.p, cyclesRemaining := t'.cyclesRemaining, op := t'.op, irqLatch := t'.irqLatch
      nmiPending := t'.nmiPending, nmiPrev := t'.nmiPrev, halted := t'.halted, calls := t'.calls, diag := t'.diag
      cyclesOut := t'.cyclesOut })
    (hp : { s'.p with b := s.p.b } = s.p) : Entered vector b ret s' t' := by
  rw [hs, ht]
  obtain ⟨h7, h6, h5, h4, h3, h2, h1, h0⟩ := hp ▸ h.status
  exact ⟨h.returnHigh, h.returnLow, ⟨h7, h6, h5, h4, h3, h2, h1, h0⟩, h.elsewhere, h.sp, h.pc, h.a, h.x, h.y⟩

/-- `BRK` is an interrupt entry with `B` set for the time of the push (49_flag_nop_brk.md R230). -/
theorem opBrk_eq (s : State) (P : Params := Config.params) :
    opBrk s P = (interruptEntry irqVector true (s.pc + 2) (s.setFlags { s.p with b := true }) P).setFlags
      { s.p with i := true, b := false } := by
  simp only [opBrk, State.setFlags_p, interruptEntry_flags]

theorem exec_brk (s : State) :
    exec .brk s = .next ((interruptEntry irqVector true (s.pc + 2) (s.setFlags { s.p with b := true })).setFlags
      { s.p with i := true, b := false }) :=
  (exec_eq_effect .brk s).trans (congrArg _ (opBrk_eq s))

/-- Settles O33. -/
theorem brkEntersTheHandler : Obligations.BrkEntersTheHandler := by
  intro s
  have hentered := interruptEntry_entered (vector := irqVector) (by decide) (by decide) true (s.pc + 2)
    (s.setFlags { s.p with b := true })
  refine ⟨_, exec_brk s, hentered.congr rfl rfl rfl, rfl, ?_, ?_⟩
  · constructor <;> simp
  · simp

/-- Settles O34. -/
theorem rtiRestoresStatusAndProgramCounter : Obligations.RtiRestoresStatusAndProgramCounter := fun s => exec_rti s

/-- The stack an interrupt entry leaves, whatever the vector (60_exceptions.md R256). -/
theorem load_interruptEntry (vector : Word) (b : Bool) (ret : Word) (s : State) (a : Word) :
    (interruptEntry vector b ret s).load a =
      if a = stackAddr (s.sp - 2) then statusByte b s.p
      else if a = stackAddr (s.sp - 1) then lo ret
      else if a = stackAddr s.sp then hi ret
      else s.load a := by
  rw [State.load_congr (interruptEntry_mem ..), State.load_push, State.load_push, State.load_push, State.push_sp,
    State.push_sp, sub_one_sub_one]

theorem interruptEntry_sp (vector : Word) (b : Bool) (ret : Word) (s : State) :
    (interruptEntry vector b ret s).sp = s.sp - 3 := by
  simp only [interruptEntry, State.setPc_sp, State.setFlags_sp, State.push_sp]
  bv_omega

/-- Settles O35: the three bytes RTI pulls are the three the entry pushed. -/
theorem rtiUndoesInterruptEntry : Obligations.RtiUndoesInterruptEntry := by
  intro s vector ret b t
  have hload := load_interruptEntry vector b ret s
  have hsp : t.sp = s.sp - 3 := interruptEntry_sp vector b ret s
  have hsp1 : t.sp + 1 = s.sp - 2 := by bv_omega
  have hsp2 : t.sp + 2 = s.sp - 1 := by bv_omega
  have hsp3 : t.sp + 3 = s.sp := by bv_omega
  have hne1 : stackAddr (s.sp - 1) ≠ stackAddr (s.sp - 2) := stackAddr_inj.not.mpr (by bv_omega)
  have hne2 : stackAddr s.sp ≠ stackAddr (s.sp - 2) := stackAddr_inj.not.mpr (by bv_omega)
  have hne3 : stackAddr s.sp ≠ stackAddr (s.sp - 1) := stackAddr_ne_stackAddr_sub_one s.sp
  have hstatus : t.load (stackAddr (s.sp - 2)) = statusByte b s.p := by rw [hload, if_pos rfl]
  have hlow : t.load (stackAddr (s.sp - 1)) = lo ret := by rw [hload, if_neg hne1, if_pos rfl]
  have hhigh : t.load (stackAddr s.sp) = hi ret := by rw [hload, if_neg hne2, if_neg hne3, if_pos rfl]
  constructor
  · rw [exec_rti, hsp1, hsp2, hsp3, hstatus, hlow, hhigh, wordOf_hi_lo, loadStatus_of_statusBits (statusByte_bits b s.p)]
    exact congrArg (fun u : State => Host.Outcome.next { u with sp := s.sp, p := { s.p with b := false }, pc := ret })
      (interruptEntry_frame (P := Config.params) vector b ret s)
  · intro a h0 h1 h2
    rw [hload, if_neg h2, if_neg h1, if_neg h0]

end Sys2Proof.Machine

/-! PROOFS. What every instruction leaves alone and what it cannot read: the execution state (10_state.md R50), the decimal flag
(R42), and the table of flag writers (R48). -/

namespace Sys2Proof.Machine

/-- A change of the state that touches nothing an operand depends on: it keeps the registers and memory, and commutes with the
ways a result is written back. -/
structure Transparent (g : State → State) : Prop where
  a : ∀ s, (g s).a = s.a
  x : ∀ s, (g s).x = s.x
  y : ∀ s, (g s).y = s.y
  pc : ∀ s, (g s).pc = s.pc
  mem : ∀ s, (g s).mem = s.mem
  setA : ∀ s v, (g s).setA v = g (s.setA v)
  setPc : ∀ s w, (g s).setPc w = g (s.setPc w)
  store : ∀ s ea v P, (g s).store ea v P = g (s.store ea v P)

namespace Transparent

variable {g : State → State} (hg : Transparent g)

include hg

theorem resolve_eq (o : Operand) (s : State) (P : Params) : resolve o (g s) P = resolve o s P :=
  resolve_congr (hg.x s) (hg.y s) (hg.pc s) (fun b => State.load_congr (hg.mem s) b P) o

theorem operandValue_eq (o : Operand) (s : State) (P : Params) : operandValue o (g s) P = operandValue o s P :=
  operandValue_congr (hg.a s) (hg.x s) (hg.y s) (hg.pc s) (fun b => State.load_congr (hg.mem s) b P) o

theorem effAddr_eq (o : Operand) (s : State) (P : Params) : effAddr o (g s) P = effAddr o s P := by
  rw [effAddr, effAddr, hg.resolve_eq]

theorem nextPc_eq (o : Operand) (s : State) : nextPc o (g s) = nextPc o s := by
  rw [nextPc, nextPc, hg.pc]

theorem writeBack_eq (o : Operand) (v : Byte) (s : State) (P : Params) :
    writeBack o v (g s) P = g (writeBack o v s P) := by
  rw [writeBack, writeBack, hg.resolve_eq]
  cases (resolve o s P).1 with
  | none => exact hg.setA s v
  | imm => rfl
  | addr ea => exact hg.store s ea v P

theorem jumpTo_eq (o : Operand) (s : State) (P : Params) : jumpTo o (g s) P = g (jumpTo o s P) := by
  rw [jumpTo, jumpTo, hg.effAddr_eq, hg.nextPc_eq, hg.setPc]

theorem branchIf_eq (taken : Bool) (o : Operand) (s : State) (P : Params) :
    branchIf taken o (g s) P = g (branchIf taken o s P) := by
  cases taken
  · exact (congrArg _ (hg.nextPc_eq o s)).trans (hg.setPc s _)
  · exact hg.jumpTo_eq o s P

end Transparent

/-- `s` with the execution state, the driver's queue and the cycle output of `r`. -/
def State.withEngineOf (s r : State) : State :=
  { s with
    cyclesRemaining := r.cyclesRemaining, op := r.op, irqLatch := r.irqLatch, nmiPending := r.nmiPending
    nmiPrev := r.nmiPrev, halted := r.halted, calls := r.calls, cyclesOut := r.cyclesOut }

theorem transparent_withEngineOf (r : State) : Transparent (State.withEngineOf · r) := by
  constructor <;> intros <;> rfl

/-- `s` with another decimal flag. -/
def State.withDecimal (d : Bool) (s : State) : State := { s with p := { s.p with d := d } }

theorem transparent_withDecimal (d : Bool) : Transparent (State.withDecimal d) := by
  constructor <;> intros <;> rfl

/-- No effect reads the execution state, the queue or the cycle output (R50, R267). -/
theorem effect_withEngineOf (m : Mnemonic) (o : Operand) (opc : Byte) (s r : State) (P : Params := Config.params) :
    effect m o opc (s.withEngineOf r) P = (effect m o opc s P).withEngineOf r := by
  have hg := transparent_withEngineOf r
  cases m
  case LDA | LDX | LDY | ADC | SBC | AND | ORA | EOR | BIT | CMP | CPX | CPY =>
    simp only [effect, opLda, opLdx, opLdy, opAdc, opSbc, opAnd, opOra, opEor, opBit, opCmp, opCpx, opCpy,
      hg.operandValue_eq]
    rfl
  case STA | STX | STY | INC | DEC | ASL | LSR | ROL | ROR =>
    simp only [effect, opSta, opStx, opSty, opInc, opDec, opAsl, opLsr, opRol, opRor, shift, hg.operandValue_eq,
      hg.writeBack_eq]
    rfl
  case BCC | BCS | BEQ | BNE | BMI | BPL | BVC | BVS => exact hg.branchIf_eq _ o s P
  case JMP => exact hg.jumpTo_eq o s P
  case JSR =>
    simp only [effect, opJsr, hg.effAddr_eq, hg.nextPc_eq]
    rfl
  case RTI =>
    simp only [effect, opRti, interruptReturn_eq]
    rfl
  all_goals rfl

/-- The same of `D` (R42), for the mnemonics that neither read nor write it. -/
theorem effect_withDecimal {m : Mnemonic} (h : m ∉ [.ADC, .SBC, .PHP, .BRK, .PLP, .RTI, .CLD, .SED]) (o : Operand)
    (opc : Byte) (s : State) (d : Bool) : effect m o opc (s.withDecimal d) = (effect m o opc s).withDecimal d := by
  have hg := transparent_withDecimal d
  cases m
  case LDA | LDX | LDY | AND | ORA | EOR | BIT | CMP | CPX | CPY =>
    simp only [effect, opLda, opLdx, opLdy, opAnd, opOra, opEor, opBit, opCmp, opCpx, opCpy, hg.operandValue_eq]
    rfl
  case STA | STX | STY | INC | DEC | ASL | LSR | ROL | ROR =>
    simp only [effect, opSta, opStx, opSty, opInc, opDec, opAsl, opLsr, opRol, opRor, shift, hg.operandValue_eq,
      hg.writeBack_eq]
    rfl
  case BCC | BCS | BEQ | BNE | BMI | BPL | BVC | BVS => exact hg.branchIf_eq _ o s Config.params
  case JMP => exact hg.jumpTo_eq o s Config.params
  case JSR =>
    simp only [effect, opJsr, hg.effAddr_eq, hg.nextPc_eq]
    rfl
  case ADC | SBC | PHP | BRK | PLP | RTI | CLD | SED => simp at h
  all_goals rfl

/-- What no effect reads it leaves alone: taken from a state into itself it changes nothing. -/
theorem sameEngine_effect (m : Mnemonic) (o : Operand) (opc : Byte) (s : State) (P : Params := Config.params) :
    SameEngine s (effect m o opc s P) := by
  have h : effect m o opc s P = (effect m o opc s P).withEngineOf s := effect_withEngineOf m o opc s s P
  rw [h]
  exact ⟨rfl, rfl, rfl, rfl, rfl, rfl, rfl, rfl⟩

/-- Settles O36. -/
theorem everyInstructionCompletes : Obligations.EveryInstructionCompletes := fun i s =>
  ⟨⟨_, exec_eq_effect i s, sameEngine_effect _ _ _ s _⟩, fun P => ⟨_, execWith_eq_effect P i s, sameEngine_effect _ _ _ s _⟩,
    by rw [execWith_default]⟩

/-- Settles O40. -/
theorem instructionsCannotReadTheExecutionState : Obligations.InstructionsCannotReadTheExecutionState := by
  intro i s n o l p v h calls cy other
  rw [exec_eq_effect, exec_eq_effect]
  exact congrArg _ (effect_withEngineOf _ _ _ s (other s))

/-- Settles O39: `PLP`, `RTI`, `CLD` and `SED` overwrite `D`. -/
theorem decimalFlagIsReadOnlyByAdcSbcAndPushes : Obligations.DecimalFlagIsReadOnlyByAdcSbcAndPushes := by
  intro i s d withD
  rw [exec_eq_effect, exec_eq_effect]
  refine ⟨fun h => congrArg _ ?_, fun h => congrArg _ (effect_withDecimal h _ _ s d)⟩
  simp only [List.mem_cons, List.not_mem_nil, or_false] at h
  rcases h with h | h | h | h <;> rw [h]
  case inr.inl =>
    simp only [effect, opRti, interruptReturn_eq]
    rfl
  all_goals rfl

/-- The flags an effect leaves: the table of 10_state.md R48, row by row. -/
def flagsAfter (m : Mnemonic) (o : Operand) (s : State) (P : Params := Config.params) : Flags :=
  match m with
  | .LDA | .LDX | .LDY => s.p.setZN (operandValue o s P)
  | .TAX | .TAY => s.p.setZN s.a
  | .TXA => s.p.setZN s.x
  | .TYA => s.p.setZN s.y
  | .TSX => s.p.setZN s.sp
  | .PLA => s.p.setZN (s.pulled P)
  | .INC => s.p.setZN (operandValue o s P + 1)
  | .DEC => s.p.setZN (operandValue o s P - 1)
  | .INX => s.p.setZN (s.x + 1)
  | .INY => s.p.setZN (s.y + 1)
  | .DEX => s.p.setZN (s.x - 1)
  | .DEY => s.p.setZN (s.y - 1)
  | .AND => s.p.setZN (s.a &&& operandValue o s P)
  | .ORA => s.p.setZN (s.a ||| operandValue o s P)
  | .EOR => s.p.setZN (s.a ^^^ operandValue o s P)
  | .ADC => s.p.ofAlu (adcResult P.decimalAdc s.p.d s.a (operandValue o s P) s.p.c)
  | .SBC => s.p.ofAlu (sbcResult P.decimalSbc s.p.d s.a (operandValue o s P) s.p.c)
  | .BIT => s.p.bitTest s.a (operandValue o s P)
  | .CMP => s.p.compare s.a (operandValue o s P)
  | .CPX => s.p.compare s.x (operandValue o s P)
  | .CPY => s.p.compare s.y (operandValue o s P)
  | .ASL => Flags.setZN { s.p with c := (aslByte s.p.c (operandValue o s P)).2 } (aslByte s.p.c (operandValue o s P)).1
  | .LSR => Flags.setZN { s.p with c := (lsrByte s.p.c (operandValue o s P)).2 } (lsrByte s.p.c (operandValue o s P)).1
  | .ROL => Flags.setZN { s.p with c := (rolByte s.p.c (operandValue o s P)).2 } (rolByte s.p.c (operandValue o s P)).1
  | .ROR => Flags.setZN { s.p with c := (rorByte s.p.c (operandValue o s P)).2 } (rorByte s.p.c (operandValue o s P)).1
  | .CLC => { s.p with c := false }
  | .SEC => { s.p with c := true }
  | .CLI => { s.p with i := false }
  | .SEI => { s.p with i := true }
  | .CLD => { s.p with d := false }
  | .SED => { s.p with d := true }
  | .CLV => { s.p with v := false }
  | .PLP | .RTI => loadStatus (s.pulled P)
  | .BRK => { s.p with i := true, b := false }
  | _ => s.p

theorem effect_p (m : Mnemonic) (o : Operand) (opc : Byte) (s : State) (P : Params := Config.params) :
    (effect m o opc s P).p = flagsAfter m o s P := by
  cases m
  case BCC | BCS | BEQ | BNE | BMI | BPL | BVC | BVS => exact branchIf_p _ o s P
  case STA | STX | STY => exact writeBack_p o _ s P
  all_goals rfl

section FlagWriters

variable (m : Mnemonic) (o : Operand) (s : State) (P : Params)

/-- `C` is kept outside its writers; so are the other flags below. -/
theorem flagsAfter_c : m ∈ [.ADC, .SBC, .CMP, .CPX, .CPY, .ASL, .LSR, .ROL, .ROR, .CLC, .SEC, .PLP, .RTI] ∨
    (flagsAfter m o s P).c = s.p.c := by
  cases m
  case ADC | SBC | CMP | CPX | CPY | ASL | LSR | ROL | ROR | CLC | SEC | PLP | RTI => exact .inl (by decide)
  all_goals exact .inr rfl

theorem flagsAfter_v : m ∈ [.ADC, .SBC, .BIT, .CLV, .PLP, .RTI] ∨ (flagsAfter m o s P).v = s.p.v := by
  cases m
  case ADC | SBC | BIT | CLV | PLP | RTI => exact .inl (by decide)
  all_goals exact .inr rfl

theorem flagsAfter_i : m ∈ [.CLI, .SEI, .PLP, .RTI, .BRK] ∨ (flagsAfter m o s P).i = s.p.i := by
  cases m
  case CLI | SEI | PLP | RTI | BRK => exact .inl (by decide)
  all_goals exact .inr rfl

theorem flagsAfter_d : m ∈ [.CLD, .SED, .PLP, .RTI] ∨ (flagsAfter m o s P).d = s.p.d := by
  cases m
  case CLD | SED | PLP | RTI => exact .inl (by decide)
  all_goals exact .inr rfl

/-- The writers of `B` clear it. -/
theorem flagsAfter_b : m ∈ [.PLP, .RTI, .BRK] ∧ (flagsAfter m o s P).b = false ∨
    m ∉ [.PLP, .RTI, .BRK] ∧ (flagsAfter m o s P).b = s.p.b := by
  cases m
  case PLP | RTI | BRK => exact .inl ⟨by decide, rfl⟩
  all_goals exact .inr ⟨by decide, rfl⟩

theorem flagsAfter_zn : m ∈ [.LDA, .LDX, .LDY, .TAX, .TAY, .TXA, .TYA, .TSX, .PLA, .INC, .DEC, .INX, .INY, .DEX, .DEY, .AND,
      .ORA, .EOR, .ADC, .SBC, .CMP, .CPX, .CPY, .ASL, .LSR, .ROL, .ROR, .BIT, .PLP, .RTI] ∨
    (flagsAfter m o s P).z = s.p.z ∧ (flagsAfter m o s P).n = s.p.n := by
  cases m
  case LDA | LDX | LDY | TAX | TAY | TXA | TYA | TSX | PLA | INC | DEC | INX | INY | DEX | DEY | AND | ORA | EOR | ADC
      | SBC | CMP | CPX | CPY | ASL | LSR | ROL | ROR | BIT | PLP | RTI =>
    exact .inl (by decide)
  all_goals exact .inr ⟨rfl, rfl⟩

end FlagWriters

/-- Settles O37: the rows of `flagsAfter`. -/
theorem flagsAreWrittenOnlyAsListed : Obligations.FlagsAreWrittenOnlyAsListed := by
  intro i s
  refine ⟨_, exec_eq_effect i s, ?_⟩
  rw [effect_p]
  have hb := flagsAfter_b i.mnemonic i.operand s Config.params
  exact ⟨(flagsAfter_c ..).resolve_left, (flagsAfter_v ..).resolve_left, (flagsAfter_i ..).resolve_left,
    (flagsAfter_d ..).resolve_left, fun h => (hb.resolve_left fun h' => h h'.1).2,
    fun h => (hb.resolve_right fun h' => h'.1 h).2, (flagsAfter_zn ..).resolve_left⟩

end Sys2Proof.Machine

/-! PROOFS. The bus accesses of an operation (20_memory.md R89) against its effect: which of them write, what they leave of memory,
and that the bytes read are all an instruction depends on. -/

namespace Sys2Proof.Machine

theorem applyAccesses_append (l k : List BusAccess) (s : State) (P : Params := Config.params) :
    applyAccesses (l ++ k) s P = applyAccesses k (applyAccesses l s P) P := by
  induction l generalizing s with
  | nil => rfl
  | cons x l ih => cases x <;> exact ih _

/-- A list of reads. -/
def OnlyReads (l : List BusAccess) : Prop := ∀ x ∈ l, ∃ a, x = .read a

theorem applyAccesses_of_onlyReads {l : List BusAccess} (h : OnlyReads l) (s : State) (P : Params := Config.params) :
    applyAccesses l s P = s := by
  induction l with
  | nil => rfl
  | cons x l ih =>
    obtain ⟨a, rfl⟩ := h x List.mem_cons_self
    exact ih fun y hy => h y (List.mem_cons_of_mem _ hy)

theorem onlyReads_fetchAccesses (s : State) (P : Params := Config.params) : OnlyReads (fetchAccesses s P) := by
  intro x hx
  obtain ⟨k, -, rfl⟩ := List.mem_map.mp hx
  exact ⟨_, rfl⟩

theorem onlyReads_pointerAccesses (o : Operand) (s : State) : OnlyReads (pointerAccesses o s) := by
  intro x hx
  cases o
  case ind | izx | izy =>
    simp only [pointerAccesses, List.mem_cons, List.not_mem_nil, or_false] at hx
    rcases hx with rfl | rfl <;> exact ⟨_, rfl⟩
  all_goals cases hx

theorem onlyReads_pullAccesses (sp : Byte) (n : Nat) : OnlyReads (pullAccesses sp n) := by
  induction n generalizing sp with
  | zero => exact fun x hx => nomatch hx
  | succ n ih =>
    intro x hx
    rcases List.mem_cons.mp hx with rfl | hx
    · exact ⟨_, rfl⟩
    · exact ih _ x hx

/-- The byte an operation stores, by what it does to the byte at its address (R134 to R136, R151, R152, R175). -/
theorem mem_applyAccesses_dataAccesses (m : Mnemonic) (o : Operand) (s : State) :
    (applyAccesses (dataAccesses m o s) s).mem =
      if operandUse m = .write ∨ operandUse m = .modify
      then (writeBack o (storedByte m (operandValue o s) s) s).mem else s.mem := by
  rcases writeBack_cases o (storedByte m (operandValue o s) s) s with ⟨ea, hea, hw⟩ | ⟨hea, -, hw⟩ | ⟨hea, -, hw⟩
  · rw [hw, dataAccesses, hea, operandValue_of_effAddr hea]
    cases operandUse m <;> rfl
  · rw [hw, dataAccesses, hea]
    cases operandUse m <;> rfl
  · rw [hw, dataAccesses, hea]
    cases operandUse m <;> rfl

theorem applyAccesses_dataAccesses_of_not_write {m : Mnemonic} (h : operandUse m ∉ [.write, .modify]) (o : Operand)
    (s : State) : applyAccesses (dataAccesses m o s) s = s := by
  refine applyAccesses_of_onlyReads (fun x hx => ?_) s
  simp only [List.mem_cons, List.not_mem_nil, or_false, not_or] at h
  obtain ⟨hw, hm⟩ := h
  rw [dataAccesses] at hx
  split at hx
  · exact ⟨_, List.mem_singleton.mp hx⟩
  next hu => exact absurd hu hw
  next hu => exact absurd hu hm
  all_goals cases hx

/-- An effect leaves the memory that its data and stack accesses make of the memory before (R89). -/
theorem effect_mem (m : Mnemonic) (o : Operand) (opc : Byte) (s : State) :
    (effect m o opc s).mem = (applyAccesses (dataAccesses m o s ++ stackAccesses m s) s).mem := by
  have hdata := mem_applyAccesses_dataAccesses m o s
  rw [applyAccesses_append]
  cases m
  case STA | STX | STY | INC | DEC | ASL | LSR | ROL | ROR => exact hdata.symm
  all_goals rw [applyAccesses_dataAccesses_of_not_write (by decide)]
  case BCC | BCS | BEQ | BNE | BMI | BPL | BVC | BVS => exact branchIf_mem _ o s
  all_goals rfl

theorem instrAccesses_mem (i : Instr) (s : State) :
    (applyAccesses (instrAccesses i s) s).mem = (effect i.mnemonic i.operand i.opcode s).mem := by
  rw [instrAccesses, List.append_assoc, applyAccesses_append,
    applyAccesses_of_onlyReads (onlyReads_pointerAccesses _ s), effect_mem]

theorem entryAccesses_mem (vector : Word) (b : Bool) (ret : Word) (s : State) :
    (applyAccesses (entryAccesses vector b ret s) s).mem = (interruptEntry vector b ret s).mem := by
  rw [interruptEntry_mem]
  rfl

theorem check_mem (s : State) : (check s).mem = s.mem := by
  rcases check_cases s with ⟨-, h⟩ | ⟨-, -, -, h⟩ | ⟨-, -, h⟩ <;> rw [h]

/-- Settles O42. -/
theorem busAccessesExplainEveryWrite : Obligations.BusAccessesExplainEveryWrite := by
  intro s
  refine ⟨_, commit_eq s, ?_⟩
  rw [commitState, commitAccesses]
  cases s.op
  case instr =>
    rw [check_mem, applyAccesses_append, applyAccesses_of_onlyReads (onlyReads_fetchAccesses s), instrAccesses_mem]
  case irqSeq => exact (entryAccesses_mem irqVector false s.pc s).symm
  case nmiSeq => exact (entryAccesses_mem nmiVector false s.pc s).symm
  case resetWait => rfl

section Writers

variable (m : Mnemonic) (o : Operand) (opc : Byte) (s : State)

/-- The mnemonics that write a result back where the operand came from (R175). -/
def writeBackMnemonics : List Mnemonic := [.STA, .STX, .STY, .INC, .DEC, .ASL, .LSR, .ROL, .ROR]

theorem effect_a : m ∈ [.LDA, .PLA, .TXA, .TYA, .ADC, .SBC, .AND, .ORA, .EOR] ∨ m ∈ writeBackMnemonics ∨
    (effect m o opc s).a = s.a := by
  cases m
  case LDA | PLA | TXA | TYA | ADC | SBC | AND | ORA | EOR => exact .inl (by decide)
  case STA | STX | STY | INC | DEC | ASL | LSR | ROL | ROR => exact .inr (.inl (by decide))
  case BCC | BCS | BEQ | BNE | BMI | BPL | BVC | BVS => exact .inr (.inr (branchIf_a _ o s))
  case BRK | RTI => exact .inr (.inr (by simp only [effect, opBrk_eq, opRti, State.setFlags_a, interruptEntry_a,
    interruptReturn_a]))
  all_goals exact .inr (.inr rfl)

/-- A write-back to an effective address leaves `A` alone. -/
theorem effect_a_of_effAddr {m : Mnemonic} (hm : m ∈ writeBackMnemonics) {o : Operand} {s : State} {ea : Word}
    (h : effAddr o s = some ea) : (effect m o opc s).a = s.a := by
  have hw (v : Byte) : (writeBack o v s).a = s.a := by
    rw [writeBack_of_effAddr h]
    rfl
  simp only [writeBackMnemonics, List.mem_cons, List.not_mem_nil, or_false] at hm
  rcases hm with rfl | rfl | rfl | rfl | rfl | rfl | rfl | rfl | rfl <;> exact hw _

theorem effect_x : m ∈ [.LDX, .TAX, .TSX, .INX, .DEX] ∨ (effect m o opc s).x = s.x := by
  cases m
  case LDX | TAX | TSX | INX | DEX => exact .inl (by decide)
  case STA | STX | STY | INC | DEC | ASL | LSR | ROL | ROR => exact .inr (writeBack_x o _ s)
  case BCC | BCS | BEQ | BNE | BMI | BPL | BVC | BVS => exact .inr (branchIf_x _ o s)
  case BRK | RTI => exact .inr (by simp only [effect, opBrk_eq, opRti, State.setFlags_x, interruptEntry_x,
    interruptReturn_x])
  all_goals exact .inr rfl

theorem effect_y : m ∈ [.LDY, .TAY, .INY, .DEY] ∨ (effect m o opc s).y = s.y := by
  cases m
  case LDY | TAY | INY | DEY => exact .inl (by decide)
  case STA | STX | STY | INC | DEC | ASL | LSR | ROL | ROR => exact .inr (writeBack_y o _ s)
  case BCC | BCS | BEQ | BNE | BMI | BPL | BVC | BVS => exact .inr (branchIf_y _ o s)
  case BRK | RTI => exact .inr (by simp only [effect, opBrk_eq, opRti, State.setFlags_y, interruptEntry_y,
    interruptReturn_y])
  all_goals exact .inr rfl

theorem effect_sp : m ∈ [.PHA, .PHP, .PLA, .PLP, .JSR, .RTS, .RTI, .BRK, .TXS] ∨ (effect m o opc s).sp = s.sp := by
  cases m
  case PHA | PHP | PLA | PLP | JSR | RTS | RTI | BRK | TXS => exact .inl (by decide)
  case STA | STX | STY | INC | DEC | ASL | LSR | ROL | ROR => exact .inr (writeBack_sp o _ s)
  case BCC | BCS | BEQ | BNE | BMI | BPL | BVC | BVS => exact .inr (branchIf_sp _ o s)
  all_goals exact .inr rfl

theorem effect_mem_kept : m ∈ [.PHA, .PHP, .JSR, .BRK] ∨ m ∈ writeBackMnemonics ∨ (effect m o opc s).mem = s.mem := by
  cases m
  case PHA | PHP | JSR | BRK => exact .inl (by decide)
  case STA | STX | STY | INC | DEC | ASL | LSR | ROL | ROR => exact .inr (.inl (by decide))
  case BCC | BCS | BEQ | BNE | BMI | BPL | BVC | BVS => exact .inr (.inr (branchIf_mem _ o s))
  all_goals exact .inr (.inr rfl)

/-- An accumulator form leaves memory alone. -/
theorem effect_mem_of_implied {m : Mnemonic} (hm : m ∈ [.ASL, .LSR, .ROL, .ROR]) :
    (effect m .implied opc s).mem = s.mem := by
  simp only [List.mem_cons, List.not_mem_nil, or_false] at hm
  rcases hm with rfl | rfl | rfl | rfl <;> rfl

end Writers

/-- A write-back is a store, an increment, a decrement, or a shift or rotate. -/
theorem mem_addressMnemonics_or_shift {m : Mnemonic} (h : m ∈ writeBackMnemonics) :
    m ∈ [.STA, .STX, .STY, .INC, .DEC] ∨ m ∈ [.ASL, .LSR, .ROL, .ROR] := List.mem_append.mp h

/-- Settles O38: what is written back goes to `A` in an accumulator form only, and to memory in the others only. -/
theorem registersAndMemoryAreWrittenOnlyAsListed : Obligations.RegistersAndMemoryAreWrittenOnlyAsListed := by
  intro i s
  refine ⟨_, exec_eq_effect i s, fun hlist hacc => ?_, (effect_x ..).resolve_left, (effect_y ..).resolve_left,
    (effect_sp ..).resolve_left, fun hlist hmem => ?_⟩
  · rcases effect_a i.mnemonic i.operand i.opcode s with h | h | h
    · exact absurd h hlist
    · have hmode : i.operand.mode ∉ [.implied, .immediate] := by
        rcases mem_addressMnemonics_or_shift h with h | h
        · exact mode_of_addressMnemonics (List.mem_append_left [Mnemonic.BIT] h)
        · exact (mode_of_shift h).resolve_left fun himplied => hacc ⟨h, himplied⟩
      obtain ⟨ea, hea⟩ := exists_effAddr hmode s
      exact effect_a_of_effAddr _ h hea
    · exact h
  · rcases effect_mem_kept i.mnemonic i.operand i.opcode s with h | h | h
    · exact absurd (List.mem_append_right [Mnemonic.STA, .STX, .STY, .INC, .DEC] h) hlist
    · rcases mem_addressMnemonics_or_shift h with h | h
      · exact absurd (List.mem_append_left [Mnemonic.PHA, .PHP, .JSR, .BRK] h) hlist
      · have himplied : i.operand = .implied := by_contra fun hne => hmem ⟨h, hne⟩
        rw [himplied]
        exact effect_mem_of_implied _ s h
    · exact h

end Sys2Proof.Machine

/-! PROOFS. What an instruction reads (20_memory.md R89, 30_encoding.md R105, R122): nothing of memory but the bytes its list of
accesses names. -/

namespace Sys2Proof.Machine

/-- `s` with another memory. -/
def State.withMem (mem : Memory) (s : State) : State := { s with mem := mem }

@[simp] theorem State.withMem_a (mem : Memory) (s : State) : (s.withMem mem).a = s.a := rfl
@[simp] theorem State.withMem_x (mem : Memory) (s : State) : (s.withMem mem).x = s.x := rfl
@[simp] theorem State.withMem_y (mem : Memory) (s : State) : (s.withMem mem).y = s.y := rfl
@[simp] theorem State.withMem_pc (mem : Memory) (s : State) : (s.withMem mem).pc = s.pc := rfl
@[simp] theorem State.withMem_p (mem : Memory) (s : State) : (s.withMem mem).p = s.p := rfl

section Reads

variable {m : Mnemonic} {o : Operand} {s : State} {mem : Memory}

/-- The resolver reads the pointer bytes listed and no others (R113 to R115). -/
theorem resolve_withMem (h : ∀ a, .read a ∈ pointerAccesses o s → (s.withMem mem).load a = s.load a) :
    resolve o (s.withMem mem) = resolve o s := by
  cases o
  case ind w =>
    rw [resolve, resolve, State.read16Bug, State.read16Bug, h w (by simp [pointerAccesses]),
      h (wordOf (hi w) (lo w + 1)) (by simp [pointerAccesses])]
  case izx z =>
    rw [resolve, resolve, State.read16ZP, State.read16ZP]
    exact congrArg (fun w => (Resolved.addr w, false))
      (congrArg₂ wordOf (h (zext16 (z + s.x + 1)) (by simp [pointerAccesses]))
        (h (zext16 (z + s.x)) (by simp [pointerAccesses])))
  case izy z =>
    rw [resolve, resolve, State.read16ZP, State.read16ZP, h (zext16 (z + 1)) (by simp [pointerAccesses]),
      h (zext16 z) (by simp [pointerAccesses])]
    rfl
  all_goals rfl

/-- Where the data byte is read it is listed. -/
theorem read_mem_dataAccesses {ea : Word} (hea : effAddr o s = some ea) (hm : operandUse m ∈ [.read, .modify]) :
    .read ea ∈ dataAccesses m o s := by
  simp only [List.mem_cons, List.not_mem_nil, or_false] at hm
  rw [dataAccesses, hea]
  rcases hm with h | h <;> rw [h] <;> exact List.mem_cons_self

/-- The operand value depends on the pointer bytes and the data byte listed. -/
theorem operandValue_withMem (hres : resolve o (s.withMem mem) = resolve o s)
    (h : ∀ a, .read a ∈ dataAccesses m o s → (s.withMem mem).load a = s.load a) (hm : operandUse m ∈ [.read, .modify]) :
    operandValue o (s.withMem mem) = operandValue o s := by
  rw [operandValue, operandValue, hres]
  cases hr : (resolve o s).1 with
  | none => rfl
  | imm => rfl
  | addr ea => exact h ea (read_mem_dataAccesses ((resolve_fst_eq_addr_iff o s _ ea).mp hr) hm)

/-- A write-back differs by memory only. -/
theorem writeBack_withMem (hres : resolve o (s.withMem mem) = resolve o s) (v : Byte) :
    writeBack o v (s.withMem mem) = (writeBack o v s).withMem (writeBack o v (s.withMem mem)).mem := by
  rw [writeBack, writeBack, hres]
  cases (resolve o s).1 <;> rfl

/-- The same with the flags of the result set and `PC` moved on. -/
theorem advance_writeBack_withMem (hres : resolve o (s.withMem mem) = resolve o s) (v : Byte) (q : Flags) :
    advance o ((writeBack o v (s.withMem mem)).setFlags q) =
      (advance o ((writeBack o v s).setFlags q)).withMem (writeBack o v (s.withMem mem)).mem := by
  rw [writeBack_withMem hres]
  rfl

theorem branchIf_withMem (hres : resolve o (s.withMem mem) = resolve o s) (taken : Bool) :
    branchIf taken o (s.withMem mem) = (branchIf taken o s).withMem mem := by
  cases taken
  · rfl
  · rw [branchIf, branchIf, jumpTo, jumpTo, effAddr, effAddr, hres]
    rfl

/-- An interrupt entry reads its vector, which the pushes before it leave alone. -/
theorem interruptEntry_withMem {vector : Word} (h0 : hi vector ≠ 0x01) (h1 : hi (vector + 1) ≠ 0x01)
    (hlow : (s.withMem mem).load vector = s.load vector)
    (hhigh : (s.withMem mem).load (vector + 1) = s.load (vector + 1)) (b : Bool) (ret : Word) :
    interruptEntry vector b ret (s.withMem mem) =
      (interruptEntry vector b ret s).withMem (interruptEntry vector b ret (s.withMem mem)).mem := by
  have hpc := (interruptEntry_entered h0 h1 b ret (s.withMem mem)).pc
  rw [hlow, hhigh, ← (interruptEntry_entered h0 h1 b ret s).pc] at hpc
  have hframe := interruptEntry_frame (P := Config.params) vector b ret (s.withMem mem)
  rw [interruptEntry_sp, interruptEntry_flags, hpc] at hframe
  rw [interruptEntry_frame vector b ret s, interruptEntry_sp, interruptEntry_flags]
  exact hframe

theorem opBrk_withMem (hlow : (s.withMem mem).load irqVector = s.load irqVector)
    (hhigh : (s.withMem mem).load (irqVector + 1) = s.load (irqVector + 1)) :
    opBrk (s.withMem mem) = (opBrk s).withMem (opBrk (s.withMem mem)).mem := by
  have hentry := interruptEntry_withMem (s := s.setFlags { s.p with b := true }) (mem := mem) (vector := irqVector)
    (by decide) (by decide) hlow hhigh true (s.pc + 2)
  have hs : (s.withMem mem).setFlags { (s.withMem mem).p with b := true } =
    (s.setFlags { s.p with b := true }).withMem mem := rfl
  have hpc : (s.withMem mem).pc = s.pc := rfl
  rw [opBrk_eq, opBrk_eq, hs, hpc, hentry]
  rfl

/-- An effect depends on memory only through the bytes listed as read. -/
theorem effect_withMem (opc : Byte)
    (h : ∀ a, .read a ∈ pointerAccesses o s ++ dataAccesses m o s ++ stackAccesses m s →
      (s.withMem mem).load a = s.load a) :
    effect m o opc (s.withMem mem) = (effect m o opc s).withMem (effect m o opc (s.withMem mem)).mem := by
  have hres : resolve o (s.withMem mem) = resolve o s :=
    resolve_withMem fun a ha => h a (List.mem_append_left _ (List.mem_append_left _ ha))
  have hval : operandUse m ∈ [.read, .modify] → operandValue o (s.withMem mem) = operandValue o s :=
    operandValue_withMem hres fun a ha => h a (List.mem_append_left _ (List.mem_append_right _ ha))
  have hstack : ∀ a, .read a ∈ stackAccesses m s → (s.withMem mem).load a = s.load a :=
    fun a ha => h a (List.mem_append_right _ ha)
  cases m
  case LDA | LDX | LDY | ADC | SBC | AND | ORA | EOR | BIT | CMP | CPX | CPY =>
    simp only [effect, opLda, opLdx, opLdy, opAdc, opSbc, opAnd, opOra, opEor, opBit, opCmp, opCpx, opCpy,
      hval (by decide)]
    rfl
  case STA | STX | STY =>
    simp only [effect, opSta, opStx, opSty, State.withMem_a, State.withMem_x, State.withMem_y, advance_mem]
    rw [writeBack_withMem hres]
    rfl
  case INC | DEC | ASL | LSR | ROL | ROR =>
    simp only [effect, opInc, opDec, opAsl, opLsr, opRol, opRor, shift, hval (by decide), State.withMem_p, advance_mem,
      State.setFlags_mem]
    exact advance_writeBack_withMem hres _ _
  case BCC | BCS | BEQ | BNE | BMI | BPL | BVC | BVS =>
    have hb := branchIf_withMem hres
    simp only [effect, opBcc, opBcs, opBeq, opBne, opBmi, opBpl, opBvc, opBvs, hb]
    rfl
  case JMP => exact branchIf_withMem hres true
  case JSR =>
    simp only [effect, opJsr, effAddr, hres]
    rfl
  case PLA | PLP =>
    have hp : (s.withMem mem).pulled = s.pulled := hstack _ List.mem_cons_self
    simp only [effect, opPla, opPlp, hp]
    rfl
  case RTS =>
    have h0 := hstack (stackAddr (s.sp + 1)) (by simp [stackAccesses, pullAccesses])
    have h1 := hstack (stackAddr (s.sp + 1 + 1)) (by simp [stackAccesses, pullAccesses])
    simp only [effect, opRts_eq]
    exact congrArg (fun w => ({ s with mem := mem, sp := s.sp + 1 + 1, pc := w + 1 } : State)) (congrArg₂ wordOf h1 h0)
  case RTI =>
    have h0 := hstack (stackAddr (s.sp + 1)) (by simp [stackAccesses, pullAccesses])
    have h1 := hstack (stackAddr (s.sp + 1 + 1)) (by simp [stackAccesses, pullAccesses])
    have h2 := hstack (stackAddr (s.sp + 1 + 1 + 1)) (by simp [stackAccesses, pullAccesses])
    simp only [effect, opRti, interruptReturn_eq]
    exact congrArg₂ (fun q w => ({ s with mem := mem, sp := s.sp + 1 + 1 + 1, p := q, pc := w } : State))
      (congrArg loadStatus h0) (congrArg₂ wordOf h2 h1)
  case BRK =>
    have hlow := hstack irqVector (by simp [stackAccesses, entryAccesses])
    have hhigh := hstack (irqVector + 1) (by simp [stackAccesses, entryAccesses])
    exact opBrk_withMem hlow hhigh
  all_goals rfl

end Reads

/-- The opcode byte and the operand bytes the length reaches are listed (R121). -/
theorem read_mem_fetchAccesses_iff (s : State) (x : BusAccess) :
    x ∈ fetchAccesses s ↔ ∃ k < (descriptor (s.load s.pc)).length, x = .read (s.pc + BitVec.ofNat 16 k) := by
  simp only [fetchAccesses, List.mem_map, List.mem_range, eq_comm]

/-- The fetch depends on memory only through the bytes listed. -/
theorem fetch_withMem {s : State} {mem : Memory}
    (h : ∀ a, .read a ∈ fetchAccesses s → (s.withMem mem).load a = s.load a) : fetch (s.withMem mem) = fetch s := by
  have hbyte {k : Nat} (hk : k < (descriptor (s.load s.pc)).length) :
      (s.withMem mem).load (s.pc + BitVec.ofNat 16 k) = s.load (s.pc + BitVec.ofNat 16 k) :=
    h _ ((read_mem_fetchAccesses_iff s _).mpr ⟨k, hk, rfl⟩)
  have hopc : (s.withMem mem).load s.pc = s.load s.pc := by
    have h0 := hbyte (k := 0) (descriptor_length _ ▸ Mode.length_pos _)
    rwa [BitVec.add_zero] at h0
  have hoperand (k : Nat) : operandByte (s.withMem mem) k = operandByte s k := by
    show (if k < (descriptor ((s.withMem mem).load s.pc)).length then _ else _) = _
    rw [hopc, operandByte]
    split
    next hk => exact hbyte hk
    next => rfl
  rw [fetch, fetch, hoperand, hoperand]
  exact congrArg (Instr.ofBytes · _ _) hopc

/-- Settles O43. -/
theorem instructionsDependOnlyOnTheBytesTheyRead : Obligations.InstructionsDependOnlyOnTheBytesTheyRead := by
  refine ⟨fun i s mem h => ⟨_, _, exec_eq_effect i s, exec_eq_effect i _, effect_withMem _ h⟩,
    fun s mem h => fetch_withMem h, fun s => ?_, fun s v z w => ⟨rfl, rfl, rfl, rfl, rfl, rfl⟩⟩
  refine ⟨read_mem_fetchAccesses_iff s, fun hmode => ⟨?_, fetch_operand_of_mode hmode⟩, rfl⟩
  have hlen : (descriptor (s.load s.pc)).length = 1 := by rw [descriptor_length, hmode, Mode.length]
  rw [fetchAccesses, hlen]
  exact congrArg (fun a => [BusAccess.read a]) (BitVec.add_zero s.pc)

end Sys2Proof.Machine

/-! PROOFS. The sentinel (49_flag_nop_brk.md R231) and the output ports (60_exceptions.md R271). -/

namespace Sys2Proof.Machine

/-- Settles O32. -/
theorem sentinelIsAOneByteFlaggedNoOp : Obligations.SentinelIsAOneByteFlaggedNoOp := by
  intro s opc hopc
  have hrow := Laws.sentinel_row opc (List.contains_iff_mem.mpr hopc)
  refine ⟨hrow, rfl, fun hload hop => ?_, fun pc0 => ?_⟩
  · have hfetch : fetch s = .undoc opc := by rw [fetch, hload, ofBytes_undocumented hopc]
    have hlist : fetchAccesses s = [.read s.pc] := by
      rw [fetchAccesses, hload, hrow]
      exact congrArg (fun a => [BusAccess.read a]) (BitVec.add_zero s.pc)
    refine ⟨hfetch, ?_, ?_, ?_⟩
    · rw [opCost, hop]
      show instrCost s = 1
      rw [instrCost, hload, hrow]
      rfl
    · rw [commitAccesses, hop, hfetch, hlist]
      rfl
    · rw [commit_eq, commitState, hop, hfetch]
      rfl
  · simp [lineText, bytesText, encode, hexByte, instrText, operandText, Instr.operand, mnemonicText, Instr.mnemonic]

/-- Settles O41: every tick and step starts by clearing the two ports, and a host write passes them on. -/
theorem outputPortsAreNeverRead : Obligations.OutputPortsAreNeverRead := by
  intro s dg cy
  show mapNext clearOutputs (perform (nextCall s) { takeCall s with diag := dg, cyclesOut := cy }) =
    mapNext clearOutputs (perform (nextCall s) (takeCall s))
  cases nextCall s <;> rfl

end Sys2Proof.Machine

/-! PROOFS. The engine (60_exceptions.md R240 to R273): what a tick, a commit and a step call leave, and that each answers. -/

namespace Sys2Proof.Machine

/-- `s` with another count of ticks to go. -/
def State.withCount (n : Nat) (s : State) : State := { s with cyclesRemaining := n }

@[simp] theorem State.withCount_cyclesRemaining (n : Nat) (s : State) : (s.withCount n).cyclesRemaining = n := rfl
@[simp] theorem State.withCount_op (n : Nat) (s : State) : (s.withCount n).op = s.op := rfl
@[simp] theorem State.withCount_halted (n : Nat) (s : State) : (s.withCount n).halted = s.halted := rfl

theorem sampled_cyclesRemaining (irq nmi : Bool) (s : State) :
    (sampled irq nmi s).cyclesRemaining = s.cyclesRemaining := rfl

/-- What a tick makes of the counter before the commit (R244, R245). -/
theorem countDown_loadCost_sampled (irq nmi : Bool) (s : State) (P : Params := Config.params) :
    countDown (loadCost (sampled irq nmi s) P) =
      (sampled irq nmi s).withCount ((loadCost s P).cyclesRemaining - 1) := by
  have hcost : opCost (sampled irq nmi s) P = opCost s P := opCost_sample_clearOutputs irq nmi s P
  rw [countDown, loadCost_cyclesRemaining _ P, loadCost_cyclesRemaining _ P, loadCost, sampled_cyclesRemaining, hcost]
  split <;> rfl

/-- A tick without reset of a core that is not halted (R241). -/
theorem tick_of_not_halted {s : State} (hh : s.halted = false) (irq nmi : Bool) (P : Params := Config.params)
    (run : Runner := exec) :
    tick false irq nmi s P run =
      if (loadCost s P).cyclesRemaining - 1 = 0
      then commit ((sampled irq nmi s).withCount ((loadCost s P).cyclesRemaining - 1)) P run
      else .next ((sampled irq nmi s).withCount ((loadCost s P).cyclesRemaining - 1)) := by
  have hs : (sample irq nmi (clearOutputs s)).halted ≠ true := by
    show s.halted ≠ true
    rw [hh]
    exact Bool.false_ne_true
  have hcount := countDown_loadCost_sampled irq nmi s P
  rw [← sample_clearOutputs] at hcount ⊢
  rw [tick, if_neg Bool.false_ne_true]
  refine (if_neg hs).trans ?_
  simp only [hcount, State.withCount_cyclesRemaining]

theorem tick_of_halted {s : State} (hh : s.halted = true) (irq nmi : Bool) :
    tick false irq nmi s = .next (sampled irq nmi s) := by
  have hs : (sample irq nmi (clearOutputs s)).halted = true := hh
  rw [tick, if_neg Bool.false_ne_true]
  exact if_pos hs

theorem stepCall_of_not_ready {s : State} (h : stepReady s = false) (irq nmi : Bool) (P : Params := Config.params)
    (run : Runner := exec) : stepCall irq nmi s P run = .refused .stepMidOperation := by
  rw [stepCall, h, if_neg Bool.false_ne_true]

/-- A step call of a core that is not halted, where one may be made (R247). -/
theorem stepCall_of_ready {s : State} (hr : stepReady s = true) (hh : s.halted = false) (irq nmi : Bool) :
    stepCall irq nmi s = .next (endStep (opCost s) (commitState (sampled irq nmi s))) := by
  rcases stepCall_cases irq nmi s with ⟨h, -⟩ | ⟨-, h, -⟩ | ⟨-, -, h⟩
  · cases hr.symm.trans h
  · cases hh.symm.trans h
  · exact h

theorem stepReady_of_boundary {s : State} (h : s.cyclesRemaining = 0) : stepReady s = true := by
  rw [stepReady, h]
  rfl

/-- The bytes at `PC` decode to the instruction fetched (R249, 30_encoding.md R121). -/
theorem fetch_of_decode {s : State} {i : Instr} {rest : List Byte}
    (h : decode [s.load s.pc, s.load (s.pc + 1), s.load (s.pc + 2)] = .ok (i, rest)) : fetch s = i := by
  obtain ⟨opc, l, hbytes, hlen, rfl⟩ := decode_eq_ok_iff.mp h
  obtain ⟨hopc, hl⟩ := List.cons.inj hbytes
  have hoperand (k : Nat) : operandByte s k = if k < l.length + 1 then s.load (s.pc + BitVec.ofNat 16 k) else 0 := by
    rw [operandByte, hopc, hlen]
  rw [fetch, hopc, hoperand, hoperand]
  match l, hl with
  | [], _ => rfl
  | [_], hl =>
    obtain ⟨h1, -⟩ := List.cons.inj hl
    rw [← h1]
    rfl
  | [_, _], hl =>
    obtain ⟨h1, hl⟩ := List.cons.inj hl
    obtain ⟨h2, -⟩ := List.cons.inj hl
    rw [← h1, ← h2]
    rfl
  | _ :: _ :: _ :: _, hl => cases hl

/-- The commit of an instruction (R246, R249). -/
theorem commit_of_instr {s : State} (h : s.op = .instr) : commit s = mapNext check (exec (fetch s) s) := by
  rw [commit, h]
  rfl

/-- Settles O44. -/
theorem stepRunsTheDecodedInstruction : Obligations.StepRunsTheDecodedInstruction := by
  intro s irq nmi i rest hop hc hh hcall hdecode s1
  have hfetch : fetch s1 = i := fetch_of_decode (s := s1) hdecode
  rw [step, hcall]
  show stepCall irq nmi (takeCall s) = _
  rw [stepCall_of_ready (s := takeCall s) (stepReady_of_boundary hc) hh, ← hfetch, exec_eq_effect, commitState]
  show Host.Outcome.next (endStep _ (match s.op with | .instr => _ | .irqSeq => _ | .nmiSeq => _ | .resetWait => _)) = _
  rw [hop]
  rfl

/-- Settles O45. -/
theorem lastTickCommitsTheDecodedInstruction : Obligations.LastTickCommitsTheDecodedInstruction := by
  intro s irq nmi i rest hop hc hh hdecode
  have hload : (loadCost s).cyclesRemaining - 1 = 0 := by
    rw [loadCost_of_under_way (by omega), hc]
  rw [tick_of_not_halted hh, if_pos hload, hload, commit_of_instr (s := (sampled irq nmi s).withCount 0) hop]
  rw [fetch_of_decode (s := (sampled irq nmi s).withCount 0) hdecode]
  rfl

section Answers

variable {P : Params} {run : Runner} (hrun : ∀ i s, ∃ t, run i s = .next t)

include hrun

/-- Where every instruction answers, every commit does (R250). -/
theorem commit_answers (s : State) : ∃ t, commit s P run = .next t := by
  rw [commit]
  cases s.op
  case instr =>
    obtain ⟨t, ht⟩ := hrun (fetch s P) s
    exact ⟨check t, by simp only [execInstr, ht, mapNext_next]⟩
  all_goals exact ⟨_, rfl⟩

theorem tick_answers (rst irq nmi : Bool) (s : State) : ∃ t, tick rst irq nmi s P run = .next t := by
  rw [tick]
  split
  · exact ⟨_, rfl⟩
  · dsimp only
    split
    · exact ⟨_, rfl⟩
    · split
      · exact commit_answers hrun _
      · exact ⟨_, rfl⟩

theorem stepCall_answers {s : State} (h : stepReady s = true) (irq nmi : Bool) :
    ∃ t, stepCall irq nmi s P run = .next t := by
  rw [stepCall, if_pos h]
  dsimp only
  split
  · exact ⟨_, rfl⟩
  · obtain ⟨t, ht⟩ := commit_answers (P := P) hrun (sample irq nmi (clearOutputs s))
    exact ⟨_, by rw [ht, mapNext_next]⟩

/-- Every call of the driver answers but a step in the middle of an operation. -/
theorem perform_answers {c : Call} {s : State} (h : ∀ irq nmi, c = .step irq nmi → stepReady s = true) :
    ∃ t, perform c s P run = .next t := by
  cases c with
  | tick rst irq nmi => exact tick_answers hrun rst irq nmi s
  | step irq nmi => exact stepCall_answers hrun (h irq nmi rfl) irq nmi
  | write a v => exact ⟨_, rfl⟩

end Answers

/-- The default call is a step only where one may be made (log 1). -/
theorem stepReady_of_defaultCall {s : State} {irq nmi : Bool} (h : defaultCall s = .step irq nmi) : stepReady s = true := by
  by_contra hr
  rw [defaultCall, if_neg hr] at h
  cases h

/-- Settles O46: every instruction answers, for any parameters. -/
theorem stepAnswersUnlessCalledMidOperation : Obligations.StepAnswersUnlessCalledMidOperation := by
  intro s
  have hrun (P : Params) (i : Instr) (s : State) : ∃ t, execWith P i s = .next t := ⟨_, execWith_eq_effect P i s⟩
  have hrefused (P : Params) (h : ∃ irq nmi, nextCall s = .step irq nmi) (hr : stepReady s = false) :
      stepWith P s = .refused .stepMidOperation := by
    obtain ⟨irq, nmi, hcall⟩ := h
    rw [stepWith, hcall]
    exact stepCall_of_not_ready (s := takeCall s) hr irq nmi P _
  have hanswers (P : Params) (h : ∀ irq nmi, nextCall s = .step irq nmi → stepReady s = true) :
      ∃ t, stepWith P s = .next t := perform_answers (s := takeCall s) (hrun P) h
  rw [← stepWith_default]
  refine ⟨hrefused _, hanswers _, fun hempty => hanswers _ fun irq nmi hcall => ?_, fun P => ⟨hrefused P, hanswers P⟩, rfl⟩
  rw [nextCall, hempty] at hcall
  exact stepReady_of_defaultCall hcall

/-- The accesses of a tick without reset of a core that is not halted. -/
theorem tickAccesses_of_not_halted {s : State} (hh : s.halted = false) :
    tickAccesses false s =
      (if s.cyclesRemaining = 0 then firstTickAccesses s else []) ++
        (if (countDown (loadCost s)).cyclesRemaining = 0 then commitAccesses s else []) := by
  rw [tickAccesses, if_neg Bool.false_ne_true, hh, if_neg Bool.false_ne_true]

theorem onlyReads_firstTickAccesses (s : State) : OnlyReads (firstTickAccesses s) := by
  rw [firstTickAccesses]
  cases s.op
  case instr =>
    intro x hx
    exact (List.mem_append.mp hx).elim (onlyReads_fetchAccesses s _ x) (onlyReads_pointerAccesses _ s x)
  all_goals exact fun x hx => nomatch hx

/-- Settles O47. -/
theorem countdownTickOnlySamplesAndCounts : Obligations.CountdownTickOnlySamplesAndCounts := by
  intro s irq nmi hh
  have hcounts {n : Nat} (hn : (loadCost s).cyclesRemaining = n) (h2 : 2 ≤ n) :
      tick false irq nmi s = .next { sampled irq nmi s with cyclesRemaining := n - 1 } ∧
        (countDown (loadCost s)).cyclesRemaining ≠ 0 := by
    have hne : n - 1 ≠ 0 := by omega
    refine ⟨?_, by rwa [countDown, hn]⟩
    rw [tick_of_not_halted hh, hn, if_neg hne]
    rfl
  rw [tickAccesses_of_not_halted hh]
  constructor
  · intro hc
    have hne : s.cyclesRemaining ≠ 0 := by omega
    obtain ⟨htick, hleft⟩ := hcounts (by rw [loadCost_of_under_way hne]) hc
    exact ⟨htick, by rw [if_neg hne, if_neg hleft]; rfl⟩
  · intro hc hcost
    obtain ⟨htick, hleft⟩ := hcounts (by rw [loadCost_cyclesRemaining, if_pos hc]) hcost
    refine ⟨htick, by rw [if_pos hc, if_neg hleft, List.append_nil], fun a v hw => ?_⟩
    obtain ⟨b, hb⟩ := onlyReads_firstTickAccesses s _ hw
    cases hb

/-- The check writes `op` and `nmi_pending` only (R254). -/
theorem check_frame (s : State) : check s = { s with nmiPending := (check s).nmiPending, op := (check s).op } := by
  rcases check_cases s with ⟨-, h⟩ | ⟨-, -, -, h⟩ | ⟨-, -, h⟩ <;> rw [h]

theorem check_op (s : State) :
    (check s).op = if s.nmiPending then .nmiSeq else if s.irqLatch && !s.p.i then .irqSeq else .instr := by
  rw [check]
  split
  · rfl
  · split <;> rfl

theorem check_nmiPending (s : State) : (check s).nmiPending = false := by
  rcases check_cases s with ⟨-, h⟩ | ⟨hp, -, -, h⟩ | ⟨hp, -, h⟩
  · rw [h]
  · rw [h]; exact hp
  · rw [h]; exact hp

theorem check_halted (s : State) : (check s).halted = s.halted := by rw [check_frame]

@[simp] theorem toInstr_halted (s : State) : (toInstr s).halted = s.halted := rfl
@[simp] theorem toInstr_mem (s : State) : (toInstr s).mem = s.mem := rfl
@[simp] theorem toInstr_p (s : State) : (toInstr s).p = s.p := rfl

/-- The commit of an instruction is its effect and the check. -/
theorem commitState_of_instr {s : State} (h : s.op = .instr) :
    commitState s = check (effect (fetch s).mnemonic (fetch s).operand (fetch s).opcode s) := by
  rw [commitState, h]

theorem commitState_of_irqSeq {s : State} (h : s.op = .irqSeq) :
    commitState s = toInstr (interruptEntry irqVector false s.pc s) := by
  rw [commitState, h]

theorem commitState_of_nmiSeq {s : State} (h : s.op = .nmiSeq) :
    commitState s = toInstr (interruptEntry nmiVector false s.pc s) := by
  rw [commitState, h]

theorem commitState_of_resetWait {s : State} (h : s.op = .resetWait) : commitState s = toInstr s := by
  rw [commitState, h]

/-- A commit never halts the core nor wakes it (R273, 92_eei_decisions.md D25). -/
theorem commitState_halted (s : State) : (commitState s).halted = s.halted := by
  cases hop : s.op
  case instr =>
    rw [commitState_of_instr hop, check_halted]
    exact (sameEngine_effect _ _ _ s).halted
  case irqSeq => rw [commitState_of_irqSeq hop, toInstr_halted, interruptEntry_halted]
  case nmiSeq => rw [commitState_of_nmiSeq hop, toInstr_halted, interruptEntry_halted]
  case resetWait => rw [commitState_of_resetWait hop]; rfl

/-- No call of the driver but a reset tick changes whether the core is halted. -/
theorem perform_halted {c : Call} {s t : State} (h : perform c s = .next t) (hc : ∀ irq nmi, c ≠ .tick true irq nmi) :
    t.halted = s.halted := by
  cases c with
  | tick rst irq nmi =>
    rcases tick_cases rst irq nmi s with ⟨rfl, -⟩ | ⟨-, -, ht⟩ | ⟨-, -, -, ht⟩ | ⟨-, -, -, ht⟩
    · exact absurd rfl (hc irq nmi)
    all_goals
      cases ht.symm.trans h
    · rfl
    · exact (commitState_halted _).trans (loadCost_halted _)
    · exact loadCost_halted _
  | step irq nmi =>
    rcases stepCall_cases irq nmi s with ⟨-, ht⟩ | ⟨-, -, ht⟩ | ⟨-, -, ht⟩ <;> cases ht.symm.trans h
    · rfl
    · exact commitState_halted _
  | write a v => cases h; rfl

/-- Settles O48. -/
theorem haltedIsTerminalUntilReset : Obligations.HaltedIsTerminalUntilReset := by
  refine ⟨fun s irq nmi hh => ⟨tick_of_halted hh irq nmi, ?_, fun hr => ?_, ⟨_, rfl, rfl⟩⟩,
    fun c s t hh hc h => (perform_halted h hc).trans hh, fun c s t hh h => ?_⟩
  · rw [tickAccesses, if_neg Bool.false_ne_true, if_pos hh]
  · rcases stepCall_cases irq nmi s with ⟨h, -⟩ | ⟨-, -, h⟩ | ⟨-, h, -⟩
    · cases hr.symm.trans h
    · exact h
    · cases hh.symm.trans h
  · by_cases hc : ∃ irq nmi, c = .tick true irq nmi
    · obtain ⟨irq, nmi, rfl⟩ := hc
      cases h
      rfl
    · exact (perform_halted h fun irq nmi he => hc ⟨irq, nmi, he⟩).trans hh

/-- Settles O49. -/
theorem resetTickLeavesTheResetState : Obligations.ResetTickLeavesTheResetState :=
  fun _ _ _ => ⟨fun _ _ => rfl, rfl⟩

/-- Settles O50: the reset operation keeps what power-on puts in the registers and flags (70_reset_and_hazards.md R281). -/
theorem resetStateIsAResetOfPowerOn : Obligations.ResetStateIsAResetOfPowerOn := by
  refine ⟨fun P nmi => ?_, rfl, rfl⟩
  intro r
  refine ⟨rfl, rfl, rfl, rfl, rfl, rfl, rfl, rfl, rfl, rfl, rfl, fun hd => ?_⟩
  have hload (s : State) (hs : s.mem = []) (a : Word) : s.load a P = P.memPowerOn a := by
    rw [State.load_eq_readWith hd, hs, Memory.read]
  exact ⟨fun a => hload r rfl a, congrArg₂ wordOf (hload (powerOn P) rfl _) (hload (powerOn P) rfl _)⟩

/-- The state after one tick of the reset wait. -/
def afterWaitTick (irq nmi : Bool) (s : State) : State :=
  { (sampled irq nmi s).withCount (s.cyclesRemaining - 1) with
    op := if s.cyclesRemaining - 1 = 0 then .instr else .resetWait }

/-- One tick of the reset wait (70_reset_and_hazards.md R282). -/
theorem tick_of_resetWait {s : State} (hop : s.op = .resetWait) (hh : s.halted = false) (hc : s.cyclesRemaining ≠ 0)
    (irq nmi : Bool) : tick false irq nmi s = .next (afterWaitTick irq nmi s) := by
  rw [tick_of_not_halted hh, loadCost_of_under_way hc, afterWaitTick]
  split
  · rw [commit_eq, commitState_of_resetWait (s := (sampled irq nmi s).withCount _) hop]
    rfl
  · rw [← hop]
    rfl

/-- What the reset wait leaves alone: registers, flags and memory. -/
structure SameRegisters (s t : State) : Prop where
  a : t.a = s.a
  x : t.x = s.x
  y : t.y = s.y
  sp : t.sp = s.sp
  pc : t.pc = s.pc
  p : t.p = s.p
  mem : t.mem = s.mem

theorem SameRegisters.trans {s t u : State} (h : SameRegisters s t) (k : SameRegisters t u) : SameRegisters s u :=
  ⟨k.a.trans h.a, k.x.trans h.x, k.y.trans h.y, k.sp.trans h.sp, k.pc.trans h.pc, k.p.trans h.p, k.mem.trans h.mem⟩

/-- The reset wait runs out one tick at a time, whatever the inputs. -/
theorem ticks_of_resetWait {inputs : List (Bool × Bool)} {s : State} (hop : s.op = .resetWait) (hh : s.halted = false)
    (hc : s.cyclesRemaining ≠ 0) (hle : inputs.length ≤ s.cyclesRemaining) :
    ∃ t, ticks inputs s = .next t ∧ SameRegisters s t ∧ t.halted = false ∧
      t.cyclesRemaining = s.cyclesRemaining - inputs.length ∧
      t.op = if inputs.length < s.cyclesRemaining then .resetWait else .instr := by
  induction inputs generalizing s with
  | nil => exact ⟨s, rfl, ⟨rfl, rfl, rfl, rfl, rfl, rfl, rfl⟩, hh, rfl, hop.trans (if_pos (Nat.pos_of_ne_zero hc)).symm⟩
  | cons input rest ih =>
    obtain ⟨irq, nmi⟩ := input
    rw [List.length_cons] at hle ⊢
    rw [ticks_cons_of_tick (tick_of_resetWait hop hh hc irq nmi)]
    have hregs : SameRegisters s (afterWaitTick irq nmi s) := ⟨rfl, rfl, rfl, rfl, rfl, rfl, rfl⟩
    have hcount : (afterWaitTick irq nmi s).cyclesRemaining = s.cyclesRemaining - 1 := rfl
    have hnext : (afterWaitTick irq nmi s).op = if s.cyclesRemaining - 1 = 0 then .instr else .resetWait := rfl
    by_cases hlast : s.cyclesRemaining - 1 = 0
    · have hnil : rest = [] := List.eq_nil_of_length_eq_zero (by omega)
      subst hnil
      exact ⟨_, rfl, hregs, hh, hcount, by rw [hnext, if_pos hlast, if_neg (by simp; omega)]⟩
    · rw [if_neg hlast] at hnext
      obtain ⟨t, ht, hregs', hhalt, hleft, hop'⟩ := ih hnext hh (hcount ▸ hlast) (by omega)
      refine ⟨t, ht, hregs.trans hregs', hhalt, by omega, ?_⟩
      rw [hop', hcount]
      exact if_congr (by omega) rfl rfl

/-- Settles O51. -/
theorem resetWaitLastsSevenTicks : Obligations.ResetWaitLastsSevenTicks := by
  intro s nmi inputs hle r
  obtain ⟨t, ht, hregs, hhalt, hleft, hop⟩ := ticks_of_resetWait (s := r) rfl rfl (Nat.succ_ne_zero 6) hle
  exact ⟨t, ht, hregs.a, hregs.x, hregs.y, hregs.sp, hregs.pc, hregs.p, hregs.mem, hhalt, hleft, hop⟩

/-- Settles O52: the effect leaves the latches as sampled, and the check reads the `I` it left. -/
theorem interruptCheckAfterAnInstruction : Obligations.InterruptCheckAfterAnInstruction := by
  intro s irq nmi hop hc hh pending
  refine ⟨_, stepCall_of_ready (stepReady_of_boundary hc) hh irq nmi, ?_⟩
  rw [commitState_of_instr (s := sampled irq nmi s) hop]
  generalize fetch (sampled irq nmi s) = i
  have hsame := sameEngine_effect i.mnemonic i.operand i.opcode (sampled irq nmi s)
  generalize effect i.mnemonic i.operand i.opcode (sampled irq nmi s) = u at hsame
  have hpending : u.nmiPending = pending := hsame.nmiPending
  have hlatch : u.irqLatch = irq := hsame.irqLatch
  have hp : (check u).p = u.p := by rw [check_frame]
  refine ⟨?_, check_nmiPending u, ?_, ?_, rfl⟩
  · show (check u).op = if pending then .nmiSeq else if irq && !(check u).p.i then .irqSeq else .instr
    rw [check_op, hpending, hlatch, hp]
  · exact (congrArg State.nmiPrev (check_frame u)).trans hsame.nmiPrev
  · exact (congrArg State.irqLatch (check_frame u)).trans hlatch

/-- Settles O53. -/
theorem interruptSequencesEnterTheirHandlers : Obligations.InterruptSequencesEnterTheirHandlers := by
  intro s irq nmi hc hh
  have hstep := stepCall_of_ready (stepReady_of_boundary hc) hh irq nmi
  have enters {vector : Word} (h0 : hi vector ≠ 0x01) (h1 : hi (vector + 1) ≠ 0x01) (hop : s.op ≠ .instr)
      (hcommit : commitState (sampled irq nmi s) = toInstr (interruptEntry vector false s.pc (sampled irq nmi s))) :
      ∃ t, stepCall irq nmi s = .next t ∧ Entered vector false s.pc s t ∧ t.p = { s.p with i := true } ∧
        t.op = .instr ∧ t.cyclesRemaining = 0 ∧ t.cyclesOut = some 7 := by
    have hentered := interruptEntry_entered h0 h1 false s.pc (sampled irq nmi s)
    have hflags : (interruptEntry vector false s.pc (sampled irq nmi s)).p = { s.p with i := true } :=
      interruptEntry_flags ..
    refine ⟨_, hstep, ?_⟩
    rw [hcommit, opCost_of_ne_instr hop]
    generalize interruptEntry vector false s.pc (sampled irq nmi s) = u at hentered hflags
    exact ⟨hentered.congr rfl rfl rfl, hflags, rfl, rfl, rfl⟩
  exact ⟨fun hop => enters (by decide) (by decide) (by simp [hop]) (commitState_of_irqSeq (s := sampled irq nmi s) hop),
    fun hop => enters (by decide) (by decide) (by simp [hop]) (commitState_of_nmiSeq (s := sampled irq nmi s) hop)⟩

/-- The cost of a row of the opcode map is that of its class and mode, and 1 to 7 (70_reset_and_hazards.md R300, R301). -/
theorem cost_descriptor : ∀ (opc : Byte) (cross taken : Bool),
    cost (descriptor opc) cross taken = classCost (descriptor opc).mnemonic (descriptor opc).mode cross taken ∧
      1 ≤ cost (descriptor opc) cross taken ∧ cost (descriptor opc) cross taken ≤ 7 := by decide

theorem opCost_bounds (s : State) : 1 ≤ opCost s ∧ opCost s ≤ 7 := by
  cases hop : s.op
  case instr =>
    have hcost : opCost s = instrCost s := by rw [opCost, hop]
    rw [hcost]
    exact (cost_descriptor _ _ _).2
  all_goals
    have hseven : opCost s = 7 := opCost_of_ne_instr (by simp [hop])
    omega

/-- Settles O55. -/
theorem instructionCostsFollowTheClassTable : Obligations.InstructionCostsFollowTheClassTable := by
  intro s
  refine ⟨(opCost_bounds s).1, (opCost_bounds s).2, fun hop => ?_⟩
  have hmode : (fetch s).operand.mode = (descriptor (s.load s.pc)).mode := by rw [fetch_operand, mode_operandOf]
  have hcost : opCost s = instrCost s := by rw [opCost, hop]
  rw [hcost, hmode, fetch_mnemonic, ← branchTaken_eq]
  exact (cost_descriptor _ _ _).1

/-- The counter passes through an effect, a check and a commit unread (R50). -/
theorem effect_withCount (m : Mnemonic) (o : Operand) (opc : Byte) (s : State) (n : Nat) :
    effect m o opc (s.withCount n) = (effect m o opc s).withCount n := by
  have hself : effect m o opc s = (effect m o opc s).withEngineOf s := effect_withEngineOf m o opc s s
  rw [hself]
  exact effect_withEngineOf m o opc s (s.withCount n)

theorem check_withCount (s : State) (n : Nat) : check (s.withCount n) = (check s).withCount n := by
  rw [check_frame, check_op, check_nmiPending, check_frame s, check_op s, check_nmiPending]
  rfl

theorem commitState_withCount (s : State) (n : Nat) : commitState (s.withCount n) = (commitState s).withCount n := by
  cases hop : s.op
  case instr =>
    rw [commitState_of_instr hop, commitState_of_instr (s := s.withCount n) hop, ← check_withCount, ← effect_withCount]
    rfl
  case irqSeq =>
    rw [commitState_of_irqSeq hop, commitState_of_irqSeq (s := s.withCount n) hop]
    rfl
  case nmiSeq =>
    rw [commitState_of_nmiSeq hop, commitState_of_nmiSeq (s := s.withCount n) hop]
    rfl
  case resetWait =>
    rw [commitState_of_resetWait hop, commitState_of_resetWait (s := s.withCount n) hop]
    rfl

/-- Sampling again with the same levels changes nothing but the counter set in between. -/
theorem sampled_withCount_sampled (irq nmi : Bool) (s : State) (k n : Nat) :
    (sampled irq nmi ((sampled irq nmi s).withCount k)).withCount n = (sampled irq nmi s).withCount n := by
  show (sample irq nmi (sample irq nmi (clearOutputs s))).withCount n = _
  rw [sample_idem]
  rfl

/-- With constant inputs the ticks an operation has left leave what its commit leaves of the state sampled (R248). -/
theorem ticks_replicate {n : Nat} {s : State} (hh : s.halted = false) (hleft : (loadCost s).cyclesRemaining = n + 1)
    (irq nmi : Bool) :
    ticks (List.replicate (n + 1) (irq, nmi)) s = .next (commitState ((sampled irq nmi s).withCount 0)) := by
  induction n generalizing s with
  | zero =>
    have htick := tick_of_not_halted hh irq nmi
    rw [hleft, if_pos rfl, commit_eq] at htick
    exact ticks_cons_of_tick htick []
  | succ n ih =>
    have htick := tick_of_not_halted hh irq nmi
    rw [hleft, Nat.add_sub_cancel, if_neg (Nat.succ_ne_zero n)] at htick
    have hnext : (loadCost ((sampled irq nmi s).withCount (n + 1))).cyclesRemaining = n + 1 := by
      rw [loadCost_of_under_way (Nat.succ_ne_zero n)]
      rfl
    rw [List.replicate_succ, ticks_cons_of_tick htick, ih (s := (sampled irq nmi s).withCount (n + 1)) hh hnext, sampled_withCount_sampled]

/-- Where a step may be made, the ticks to go are the cost of the operation (R247). -/
theorem loadCost_of_stepReady {s : State} (h : stepReady s = true) : (loadCost s).cyclesRemaining = opCost s := by
  rw [loadCost_cyclesRemaining]
  split
  · rfl
  next hc =>
    simp only [stepReady, Bool.or_eq_true, beq_iff_eq, hc, false_or, Bool.and_eq_true] at h
    obtain ⟨hop, hseven⟩ := h
    rw [hseven, opCost_of_ne_instr (by simp [hop])]

/-- Settles O56. -/
theorem tickModeAndStepModeAgree : Obligations.TickModeAndStepModeAgree := by
  intro s irq nmi hr hh
  obtain ⟨n, hn⟩ : ∃ n, opCost s = n + 1 := Nat.exists_eq_add_of_le' (opCost_bounds s).1
  refine ⟨_, hn ▸ ticks_replicate hh ((loadCost_of_stepReady hr).trans hn) irq nmi, ?_⟩
  rw [stepCall_of_ready hr hh, commitState_withCount]
  rfl

end Sys2Proof.Machine

/-! PROOFS. The invariant (10_state.md R38, R50; 60_exceptions.md R257) and the calls of the driver that touch memory only. -/

namespace Sys2Proof.Machine

/-- Settles O57. -/
theorem invariantHoldsAtReset : Obligations.InvariantHoldsAtReset :=
  ⟨Memory.wf_reset, rfl, by decide, fun _ => rfl, fun h => nomatch h⟩

/-- Any list of accesses keeps memory canonical. -/
theorem wf_applyAccesses {s : State} (h : Memory.wf s.mem) (l : List BusAccess) :
    Memory.wf (applyAccesses l s).mem := by
  induction l generalizing s with
  | nil => exact h
  | cons x l ih =>
    cases x with
    | read a => exact ih h
    | write a v => exact ih (Memory.wf_store h a v)

theorem wf_effect {s : State} (h : Memory.wf s.mem) (m : Mnemonic) (o : Operand) (opc : Byte) :
    Memory.wf (effect m o opc s).mem := by
  rw [effect_mem]
  exact wf_applyAccesses h _

/-- An effect leaves `B` clear (R291). -/
theorem effect_breakClear {s : State} (h : s.p.b = false) (m : Mnemonic) (o : Operand) (opc : Byte) :
    (effect m o opc s).p.b = false := by
  rw [effect_p]
  rcases flagsAfter_b m o s Config.params with ⟨-, hb⟩ | ⟨-, hb⟩
  · exact hb
  · exact hb.trans h

/-- The check chooses the IRQ sequence with `I` clear only (R254, R257). -/
theorem check_masked {s : State} (h : (check s).op = .irqSeq) : (check s).p.i = false := by
  rcases check_cases s with ⟨-, he⟩ | ⟨-, -, hi, he⟩ | ⟨-, -, he⟩ <;> rw [he] at h ⊢
  · cases h
  · exact hi
  · cases h

/-- After an interrupt entry an instruction is next. -/
theorem inv_toInstr_interruptEntry {s : State} (hmem : Memory.wf s.mem) (hb : s.p.b = false) (vector : Word) (b : Bool)
    (ret : Word) (n : Nat) (hn : n < 7) : Inv ((toInstr (interruptEntry vector b ret s)).withCount n) := by
  have hwf := Memory.wf_interruptEntry hmem vector b ret
  have hp : (interruptEntry vector b ret s).p = { s.p with i := true } := interruptEntry_flags ..
  generalize interruptEntry vector b ret s = u at hwf hp
  exact ⟨hwf, (congrArg Flags.b hp).trans hb, Nat.le_of_lt hn, fun h => absurd h hn.ne, fun h => nomatch h⟩

/-- A commit keeps the invariant, whatever the counter was before it was spent. -/
theorem inv_commitState {s : State} (hmem : Memory.wf s.mem) (hb : s.p.b = false) (n : Nat) (hn : n < 7) :
    Inv ((commitState s).withCount n) := by
  cases hop : s.op
  case instr =>
    rw [commitState_of_instr hop]
    generalize fetch s = i
    have hwf := wf_effect hmem i.mnemonic i.operand i.opcode
    have hclear := effect_breakClear hb i.mnemonic i.operand i.opcode
    generalize effect i.mnemonic i.operand i.opcode s = u at hwf hclear
    have hp : (check u).p = u.p := by rw [check_frame]
    exact ⟨(check_mem u).symm ▸ hwf, (congrArg Flags.b hp).trans hclear, Nat.le_of_lt hn, fun h => absurd h hn.ne,
      check_masked⟩
  case irqSeq =>
    rw [commitState_of_irqSeq hop]
    exact inv_toInstr_interruptEntry hmem hb _ _ _ n hn
  case nmiSeq =>
    rw [commitState_of_nmiSeq hop]
    exact inv_toInstr_interruptEntry hmem hb _ _ _ n hn
  case resetWait =>
    rw [commitState_of_resetWait hop]
    exact ⟨hmem, hb, Nat.le_of_lt hn, fun h => absurd h hn.ne, fun h => nomatch h⟩

theorem inv_reset {s : State} (h : Inv s) (nmi : Bool) : Inv (resetOp nmi (clearOutputs s)) :=
  ⟨h.mem, rfl, Nat.le_refl 7, fun _ => rfl, fun h => nomatch h⟩

/-- A tick spent leaves at most six to go. -/
theorem inv_tick {s t : State} (h : Inv s) {irq nmi : Bool} (hh : s.halted = false)
    (ht : tick false irq nmi s = .next t) : Inv t := by
  have hle : (loadCost s).cyclesRemaining ≤ 7 := by
    rw [loadCost_cyclesRemaining]
    split
    · exact (opCost_bounds s).2
    · exact h.counter
  rw [tick_of_not_halted hh] at ht
  split at ht
  next hzero =>
    rw [hzero, commit_eq, commitState_withCount] at ht
    cases ht
    exact inv_commitState (s := sampled irq nmi s) h.mem h.breakClear 0 (by decide)
  next hmore =>
    cases ht
    refine ⟨h.mem, h.breakClear, ?_, fun h7 => ?_, h.masked⟩
    · show (loadCost s).cyclesRemaining - 1 ≤ 7
      omega
    · have h7' : (loadCost s).cyclesRemaining - 1 = 7 := h7
      omega

theorem inv_sampled {s : State} (h : Inv s) (irq nmi : Bool) : Inv (sampled irq nmi s) :=
  ⟨h.mem, h.breakClear, h.counter, h.seven, h.masked⟩

/-- Every call of the driver keeps the invariant. -/
theorem inv_perform {c : Call} {s t : State} (h : Inv s) (ht : perform c s = .next t) : Inv t := by
  cases c with
  | tick rst irq nmi =>
    cases rst
    · cases hh : s.halted
      · exact inv_tick h hh ht
      · cases (tick_of_halted hh irq nmi).symm.trans ht
        exact inv_sampled h irq nmi
    · cases ht
      exact inv_reset h nmi
  | step irq nmi =>
    rcases stepCall_cases irq nmi s with ⟨-, he⟩ | ⟨-, -, he⟩ | ⟨-, -, he⟩ <;> cases he.symm.trans ht
    · exact ⟨h.mem, h.breakClear, h.counter, h.seven, h.masked⟩
    · have hinv := inv_commitState (s := sampled irq nmi s) h.mem h.breakClear 0 (by decide)
      exact ⟨hinv.mem, hinv.breakClear, hinv.counter, hinv.seven, hinv.masked⟩
  | write a v =>
    cases ht
    exact ⟨Memory.wf_store h.mem a v, h.breakClear, h.counter, h.seven, h.masked⟩

/-- Settles O58: the call is taken off the queue, which the invariant does not speak of. -/
theorem invariantIsKeptByEveryStep : Obligations.InvariantIsKeptByEveryStep :=
  fun s _ h ht => inv_perform (c := nextCall s) (s := takeCall s) ⟨h.mem, h.breakClear, h.counter, h.seven, h.masked⟩ ht

/-- An address in a registration's range, as numbers (20_memory.md R74). -/
theorem deviceCovers_iff (e : DeviceEntry) (a : Word) :
    deviceCovers e a = true ↔ e.first.toNat ≤ a.toNat ∧ a.toNat ≤ e.last.toNat := by
  rw [deviceCovers, Bool.and_eq_true, decide_eq_true_iff, decide_eq_true_iff]
  rfl

/-- Settles O59. -/
theorem deviceSeamAsksTheFirstMatch : Obligations.DeviceSeamAsksTheFirstMatch := by
  intro e l m init a b v s P
  rw [← deviceCovers_iff]
  refine ⟨fun h => ?_, fun h => ?_, rfl, rfl, rfl, Memory.read_write m a b v, rfl, rfl, rfl, rfl⟩
  · have hfind : (e :: l).find? (deviceCovers · a) = some e := List.find?_cons_of_pos h
    rw [busReadWith, busWriteWith, hfind]
    exact ⟨rfl, rfl⟩
  · have hfind : (e :: l).find? (deviceCovers · a) = l.find? (deviceCovers · a) := List.find?_cons_of_neg h
    rw [busReadWith, busWriteWith, hfind]
    exact ⟨rfl, rfl⟩

/-- Settles O60. -/
theorem hostWritesOnlyTheByteItNames : Obligations.HostWritesOnlyTheByteItNames := by
  intro s a v hcall
  refine ⟨(takeCall s).store a v, ?_, rfl, storedAt_of_mem rfl⟩
  rw [step, hcall, perform]

end Sys2Proof.Machine
